-- ==== Sys2Proof/Word.lean ====
section
/-! DEFINITION. The data widths of the V850ES core (20_memory.md R92, 00_scope.md R10). -/

namespace Sys2Proof

/-- Word, 32 bits. -/
abbrev Word := BitVec 32

/-- Half-word, 16 bits. -/
abbrev Half := BitVec 16

/-- Byte, 8 bits. -/
abbrev Byte := BitVec 8

end Sys2Proof
end

