-- ==== Sys2Proof/Syntax.lean ====
section
/-! DEFINITION. The instructions: one constructor for each row of spec/opcode_table.json, operands in the order of the
row (source first, 30_encoding.md R176). A displacement is held as its value in bytes; an imm5 of PREPARE and DISPOSE
and an imm6 of CALLT as the unscaled field. -/

namespace Sys2Proof

/-- A general register number, r0 to r31 (30_encoding.md R142). -/
abbrev RegNum := BitVec 5

/-- The register list of PREPARE and DISPOSE: bit i names r(20+i) (47_special.md R400). -/
abbrev RegList := BitVec 12

/-- The sixteen conditions of 10_state.md R52, in the order of their codes 0000 to 1111. -/
inductive Cond where
  | v | c | z | nh | n | t | lt | le | nv | nc | nz | h | p | sa | ge | gt
  deriving DecidableEq, Repr

/-- The classes of undefined encodings, 30_encoding.md R171 (a) to (g) and R172. -/
inductive UndefinedClass where
  /-- (a): opcode 000010 with a reg1 field of 0, not DBTRAP; the half-word 0040H with it (R172). -/
  | divhReservedRegister
  /-- (b): MULH imm5 with reg2 = r0. -/
  | mulhImm5R0
  /-- (c): MULHI with reg2 = r0. -/
  | mulhiR0
  /-- (d): the LD.HU position with reg2 = r0. -/
  | ldHuR0
  /-- (e): a PREPARE position whose sub-opcode is neither 00001 nor ff011. -/
  | prepareSubOpcode
  /-- (f): a cell of the extended map that holds no instruction. -/
  | extendedMapCell
  /-- (g): an RFU bit or fixed bit of a defined instruction that is not as its pattern prints it (R178). -/
  | fixedBits
  deriving DecidableEq, Repr

/-- The instructions. The number in each comment is the row of 30_encoding.md R174. -/
inductive Instr where
  | nop                                                              -- 1
  | movReg (reg1 reg2 : RegNum)                                      -- 2
  | notReg (reg1 reg2 : RegNum)                                      -- 3
  | divhReg (reg1 reg2 : RegNum)                                     -- 4
  | switch (reg1 : RegNum)                                           -- 5
  | jmp (reg1 : RegNum)                                              -- 6
  | satsubr (reg1 reg2 : RegNum)                                     -- 7
  | satsub (reg1 reg2 : RegNum)                                      -- 8
  | sataddReg (reg1 reg2 : RegNum)                                   -- 9
  | mulhReg (reg1 reg2 : RegNum)                                     -- 10
  | zxb (reg1 : RegNum)                                              -- 11
  | sxb (reg1 : RegNum)                                              -- 12
  | zxh (reg1 : RegNum)                                              -- 13
  | sxh (reg1 : RegNum)                                              -- 14
  | orReg (reg1 reg2 : RegNum)                                       -- 15
  | xorReg (reg1 reg2 : RegNum)                                      -- 16
  | andReg (reg1 reg2 : RegNum)                                      -- 17
  | tst (reg1 reg2 : RegNum)                                         -- 18
  | subr (reg1 reg2 : RegNum)                                        -- 19
  | sub (reg1 reg2 : RegNum)                                         -- 20
  | addReg (reg1 reg2 : RegNum)                                      -- 21
  | cmpReg (reg1 reg2 : RegNum)                                      -- 22
  | dbtrap                                                           -- 23
  | movImm5 (imm5 : BitVec 5) (reg2 : RegNum)                        -- 24
  | sataddImm5 (imm5 : BitVec 5) (reg2 : RegNum)                     -- 25
  | addImm5 (imm5 : BitVec 5) (reg2 : RegNum)                        -- 26
  | cmpImm5 (imm5 : BitVec 5) (reg2 : RegNum)                        -- 27
  | callt (imm6 : BitVec 6)                                          -- 28
  | shrImm5 (imm5 : BitVec 5) (reg2 : RegNum)                        -- 29
  | sarImm5 (imm5 : BitVec 5) (reg2 : RegNum)                        -- 30
  | shlImm5 (imm5 : BitVec 5) (reg2 : RegNum)                        -- 31
  | mulhImm5 (imm5 : BitVec 5) (reg2 : RegNum)                       -- 32
  | bcond (cond : Cond) (disp9 : BitVec 9)                           -- 33
  | sldBu (disp4 : BitVec 4) (reg2 : RegNum)                         -- 34
  | sldHu (disp5 : BitVec 5) (reg2 : RegNum)                         -- 35
  | sldB (disp7 : BitVec 7) (reg2 : RegNum)                          -- 36
  | sstB (reg2 : RegNum) (disp7 : BitVec 7)                          -- 37
  | sldH (disp8 : BitVec 8) (reg2 : RegNum)                          -- 38
  | sstH (reg2 : RegNum) (disp8 : BitVec 8)                          -- 39
  | sldW (disp8 : BitVec 8) (reg2 : RegNum)                          -- 40
  | sstW (reg2 : RegNum) (disp8 : BitVec 8)                          -- 41
  | jarl (disp22 : BitVec 22) (reg2 : RegNum)                        -- 42
  | jr (disp22 : BitVec 22)                                          -- 43
  | addi (imm16 : Half) (reg1 reg2 : RegNum)                         -- 44
  | movea (imm16 : Half) (reg1 reg2 : RegNum)                        -- 45
  | movhi (imm16 : Half) (reg1 reg2 : RegNum)                        -- 46
  | satsubi (imm16 : Half) (reg1 reg2 : RegNum)                      -- 47
  | movImm32 (imm32 : Word) (reg1 : RegNum)                          -- 48
  | ori (imm16 : Half) (reg1 reg2 : RegNum)                          -- 49
  | xori (imm16 : Half) (reg1 reg2 : RegNum)                         -- 50
  | andi (imm16 : Half) (reg1 reg2 : RegNum)                         -- 51
  | mulhi (imm16 : Half) (reg1 reg2 : RegNum)                        -- 52
  | ldB (disp16 : Half) (reg1 reg2 : RegNum)                         -- 53
  | ldH (disp16 : Half) (reg1 reg2 : RegNum)                         -- 54
  | ldW (disp16 : Half) (reg1 reg2 : RegNum)                         -- 55
  | stB (reg2 : RegNum) (disp16 : Half) (reg1 : RegNum)              -- 56
  | stH (reg2 : RegNum) (disp16 : Half) (reg1 : RegNum)              -- 57
  | stW (reg2 : RegNum) (disp16 : Half) (reg1 : RegNum)              -- 58
  | ldBu (disp16 : Half) (reg1 reg2 : RegNum)                        -- 59
  | ldHu (disp16 : Half) (reg1 reg2 : RegNum)                        -- 60
  | set1Disp (bit3 : BitVec 3) (disp16 : Half) (reg1 : RegNum)       -- 61
  | not1Disp (bit3 : BitVec 3) (disp16 : Half) (reg1 : RegNum)       -- 62
  | clr1Disp (bit3 : BitVec 3) (disp16 : Half) (reg1 : RegNum)       -- 63
  | tst1Disp (bit3 : BitVec 3) (disp16 : Half) (reg1 : RegNum)       -- 64
  | setf (cond : Cond) (reg2 : RegNum)                               -- 65
  | ldsr (reg2 : RegNum) (regID : BitVec 5)                          -- 66
  | stsr (regID : BitVec 5) (reg2 : RegNum)                          -- 67
  | shrReg (reg1 reg2 : RegNum)                                      -- 68
  | sarReg (reg1 reg2 : RegNum)                                      -- 69
  | shlReg (reg1 reg2 : RegNum)                                      -- 70
  | set1Reg (reg2 reg1 : RegNum)                                     -- 71
  | not1Reg (reg2 reg1 : RegNum)                                     -- 72
  | clr1Reg (reg2 reg1 : RegNum)                                     -- 73
  | tst1Reg (reg2 reg1 : RegNum)                                     -- 74
  | sasf (cond : Cond) (reg2 : RegNum)                               -- 75
  | trap (vector : BitVec 5)                                         -- 76
  | halt                                                             -- 77
  | reti                                                             -- 78
  | ctret                                                            -- 79
  | dbret                                                            -- 80
  | di                                                               -- 81
  | ei                                                               -- 82
  | mulReg (reg1 reg2 reg3 : RegNum)                                 -- 83
  | muluReg (reg1 reg2 reg3 : RegNum)                                -- 84
  | divhReg3 (reg1 reg2 reg3 : RegNum)                               -- 85
  | divhu (reg1 reg2 reg3 : RegNum)                                  -- 86
  | div (reg1 reg2 reg3 : RegNum)                                    -- 87
  | divu (reg1 reg2 reg3 : RegNum)                                   -- 88
  | cmovReg (cond : Cond) (reg1 reg2 reg3 : RegNum)                  -- 89
  | mulImm9 (imm9 : BitVec 9) (reg2 reg3 : RegNum)                   -- 90
  | muluImm9 (imm9 : BitVec 9) (reg2 reg3 : RegNum)                  -- 91
  | cmovImm5 (cond : Cond) (imm5 : BitVec 5) (reg2 reg3 : RegNum)    -- 92
  | bsw (reg2 reg3 : RegNum)                                         -- 93
  | bsh (reg2 reg3 : RegNum)                                         -- 94
  | hsw (reg2 reg3 : RegNum)                                         -- 95
  | disposeJump (imm5 : BitVec 5) (list12 : RegList) (reg1 : RegNum) -- 96
  | dispose (imm5 : BitVec 5) (list12 : RegList)                     -- 97
  | prepare (list12 : RegList) (imm5 : BitVec 5)                     -- 98
  | prepareSp (list12 : RegList) (imm5 : BitVec 5)                   -- 99, ff = 00
  | prepareImm16 (list12 : RegList) (imm5 : BitVec 5) (imm16 : Half) -- 99, ff = 01, sign-extended
  | prepareHi16 (list12 : RegList) (imm5 : BitVec 5) (imm16 : Half)  -- 99, ff = 10, shifted left by 16
  | prepareImm32 (list12 : RegList) (imm5 : BitVec 5) (imm32 : Word) -- 99, ff = 11
  /-- The illegal instruction code with bits 26..23 = 0111 (R170): its arbitrary bits 15..11, 4..0, 31..27, 22..17. -/
  | illegal0111 (bits15 : BitVec 5) (bits4 : BitVec 5) (bits31 : BitVec 5) (bits22 : BitVec 6)
  /-- The illegal instruction code with bits 26..23 = 1xxx (R170): the same bits, and bits 25..23 before bits 22..17. -/
  | illegal1xxx (bits15 : BitVec 5) (bits4 : BitVec 5) (bits31 : BitVec 5) (bits25 : BitVec 3) (bits22 : BitVec 6)
  deriving DecidableEq, Repr

end Sys2Proof
end

