-- ==== Sys2Proof/WellFormed.lean ====
section
/-! DEFINITION. Which terms of Instr are instructions: the r0 overloads of 30_encoding.md R166 and the displacements the
encodings can hold (R154, R155, R157). A well-formed instruction is exactly one that some word decodes to. The operand
values that 93_implementation_defined.md U3, U4, U5 refuse are well formed: their meanings refuse them (log 18, log 19). -/

namespace Sys2Proof

/-- Bit 0 of a displacement is 0 (half-word and word forms, and every branch displacement; 20_memory.md R99). -/
def evenDisp {n : Nat} (d : BitVec n) : Bool := !d.getLsbD 0

/-- The low two bits of a displacement are 0 (SLD.W and SST.W; 20_memory.md R99). -/
def wordDisp {n : Nat} (d : BitVec n) : Bool := !d.getLsbD 0 && !d.getLsbD 1

/-- The register is not r0. -/
def notR0 (r : RegNum) : Bool := decide (r ≠ 0#5)

/-- The conditions of 30_encoding.md R165 and R166 on the operands. -/
def Instr.wellFormed : Instr → Bool
  | .nop => true
  | .movReg reg1 reg2 => notR0 reg1 || notR0 reg2
  | .notReg _ _ => true
  | .divhReg reg1 reg2 => notR0 reg1 && notR0 reg2
  | .switch reg1 => notR0 reg1
  | .jmp _ => true
  | .satsubr _ reg2 => notR0 reg2
  | .satsub _ reg2 => notR0 reg2
  | .sataddReg _ reg2 => notR0 reg2
  | .mulhReg _ reg2 => notR0 reg2
  | .zxb _ | .sxb _ | .zxh _ | .sxh _ => true
  | .orReg _ _ | .xorReg _ _ | .andReg _ _ | .tst _ _ => true
  | .subr _ _ | .sub _ _ | .addReg _ _ | .cmpReg _ _ => true
  | .dbtrap => true
  | .movImm5 _ reg2 => notR0 reg2
  | .sataddImm5 _ reg2 => notR0 reg2
  | .addImm5 _ _ | .cmpImm5 _ _ | .callt _ => true
  | .shrImm5 _ _ | .sarImm5 _ _ | .shlImm5 _ _ => true
  | .mulhImm5 _ reg2 => notR0 reg2
  | .bcond _ disp9 => evenDisp disp9
  | .sldBu _ reg2 => notR0 reg2
  | .sldHu disp5 reg2 => evenDisp disp5 && notR0 reg2
  | .sldB _ _ | .sstB _ _ => true
  | .sldH disp8 _ => evenDisp disp8
  | .sstH _ disp8 => evenDisp disp8
  | .sldW disp8 _ => wordDisp disp8
  | .sstW _ disp8 => wordDisp disp8
  | .jarl disp22 reg2 => evenDisp disp22 && notR0 reg2
  | .jr disp22 => evenDisp disp22
  | .addi _ _ _ => true
  | .movea _ _ reg2 => notR0 reg2
  | .movhi _ _ reg2 => notR0 reg2
  | .satsubi _ _ reg2 => notR0 reg2
  | .movImm32 _ _ => true
  | .ori _ _ _ | .xori _ _ _ | .andi _ _ _ => true
  | .mulhi _ _ reg2 => notR0 reg2
  | .ldB _ _ _ => true
  | .ldH disp16 _ _ => evenDisp disp16
  | .ldW disp16 _ _ => evenDisp disp16
  | .stB _ _ _ => true
  | .stH _ disp16 _ => evenDisp disp16
  | .stW _ disp16 _ => evenDisp disp16
  | .ldBu _ _ reg2 => notR0 reg2
  | .ldHu disp16 _ reg2 => evenDisp disp16 && notR0 reg2
  | .set1Disp _ _ _ | .not1Disp _ _ _ | .clr1Disp _ _ _ | .tst1Disp _ _ _ => true
  | .setf _ _ | .ldsr _ _ | .stsr _ _ => true
  | .shrReg _ _ | .sarReg _ _ | .shlReg _ _ => true
  | .set1Reg _ _ | .not1Reg _ _ | .clr1Reg _ _ | .tst1Reg _ _ => true
  | .sasf _ _ | .trap _ | .halt | .reti | .ctret | .dbret | .di | .ei => true
  | .mulReg _ _ _ | .muluReg _ _ _ => true
  | .divhReg3 _ _ _ | .divhu _ _ _ | .div _ _ _ | .divu _ _ _ => true
  | .cmovReg _ _ _ _ | .mulImm9 _ _ _ | .muluImm9 _ _ _ | .cmovImm5 _ _ _ _ => true
  | .bsw _ _ | .bsh _ _ | .hsw _ _ => true
  | .disposeJump _ _ reg1 => notR0 reg1
  | .dispose _ _ | .prepare _ _ | .prepareSp _ _ => true
  | .prepareImm16 _ _ _ | .prepareHi16 _ _ _ | .prepareImm32 _ _ _ => true
  | .illegal0111 _ _ _ _ | .illegal1xxx _ _ _ _ _ => true

end Sys2Proof
end

