-- ==== Sys2Proof/Decode.lean ====
section
/-! DEFINITION. The decoder (30_encoding.md R141, R165 to R173) and the encoder (R151 to R163, R174).
`h0` to `h3` are the half-words of an instruction, the one at the lowest address first (R140). -/

namespace Sys2Proof

/-- The condition of a 4-bit condition code (10_state.md R52). -/
def Cond.ofCode (code : BitVec 4) : Cond :=
  match code.toNat with
  | 0 => .v  | 1 => .c   | 2 => .z   | 3 => .nh | 4 => .n | 5 => .t   | 6 => .lt  | 7 => .le
  | 8 => .nv | 9 => .nc | 10 => .nz | 11 => .h | 12 => .p | 13 => .sa | 14 => .ge | _ => .gt

/-- The 4-bit condition code of a condition (10_state.md R52). -/
def Cond.code : Cond → BitVec 4
  | .v => 0 | .c => 1 | .z => 2 | .nh => 3 | .n => 4 | .t => 5 | .lt => 6 | .le => 7
  | .nv => 8 | .nc => 9 | .nz => 10 | .h => 11 | .p => 12 | .sa => 13 | .ge => 14 | .gt => 15

/-- The bits 15..11 of a half-word: reg2 in the first, reg3 in the second (30_encoding.md R142). -/
def bits15to11 (h : Half) : BitVec 5 := h.extractLsb' 11 5

/-- The bits 10..5 of a half-word: the opcode in the first, the sub-opcode (bits 26..21) in the second (R142). -/
def bits10to5 (h : Half) : BitVec 6 := h.extractLsb' 5 6

/-- The bits 4..0 of a half-word: reg1 in the first (R142). -/
def bits4to0 (h : Half) : BitVec 5 := h.extractLsb' 0 5

/-- The bits 10..6 of a half-word: the 5-bit opcode of formats V and XIII (R142). -/
def bits10to6 (h : Half) : BitVec 5 := h.extractLsb' 6 5

/-- The bits 10..7 of a half-word: the 4-bit opcode of formats III and IV (R142), bits 26..23 in the second. -/
def bits10to7 (h : Half) : BitVec 4 := h.extractLsb' 7 4

/-- The bits 4..1 of a half-word: bits 20..17 of the instruction in the second. -/
def bits4to1 (h : Half) : BitVec 4 := h.extractLsb' 1 4

/-- The bits 15..1 of a half-word: bits 31..17 of the instruction in the second. -/
def bits15to1 (h : Half) : BitVec 15 := h.extractLsb' 1 15

/-- Bit 0 of a half-word: bit 16 of the instruction in the second. -/
def bit0 (h : Half) : BitVec 1 := h.extractLsb' 0 1

/-- The register list of PREPARE and DISPOSE (47_special.md R400), r31 the uppermost bit and r20 the lowest. -/
def regListOf (h0 h1 : Half) : RegList :=
  h1.extractLsb' 5 1 ++ h0.extractLsb' 0 1 ++ h1.extractLsb' 6 1 ++ h1.extractLsb' 7 1 ++
  h1.extractLsb' 12 1 ++ h1.extractLsb' 13 1 ++ h1.extractLsb' 14 1 ++ h1.extractLsb' 15 1 ++
  h1.extractLsb' 8 1 ++ h1.extractLsb' 9 1 ++ h1.extractLsb' 10 1 ++ h1.extractLsb' 11 1

/-- The instruction if its fixed bits are as printed, otherwise the undefined class (g) (30_encoding.md R178). -/
def withFixedBits (asPrinted : Bool) (i : Instr) : Except UndefinedClass Instr :=
  if asPrinted then .ok i else .error .fixedBits

/-- The 16-bit instructions of formats I and II by the opcode bits 10..5 (30_encoding.md R165). CALLT takes the opcodes
010000 and 010001 with reg2 = r0 (R166), which `decode16` tests before. -/
def decode16Opcode (h0 : Half) : Except UndefinedClass Instr :=
  let reg1 := bits4to0 h0
  let reg2 := bits15to11 h0
  match (bits10to5 h0).toNat with
  | 0b000000 => .ok (if reg1 = 0#5 ∧ reg2 = 0#5 then .nop else .movReg reg1 reg2)
  | 0b000001 => .ok (.notReg reg1 reg2)
  | 0b000010 =>
    if reg1 = 0#5 then
      if reg2 = 31#5 then .ok .dbtrap else .error .divhReservedRegister
    else .ok (if reg2 = 0#5 then .switch reg1 else .divhReg reg1 reg2)
  | 0b000011 =>
    .ok (if reg2 = 0#5 then .jmp reg1
      else if h0.extractLsb' 4 1 = 0#1 then .sldBu (h0.extractLsb' 0 4) reg2
      else .sldHu (h0.extractLsb' 0 4 ++ 0#1) reg2)
  | 0b000100 => .ok (if reg2 = 0#5 then .zxb reg1 else .satsubr reg1 reg2)
  | 0b000101 => .ok (if reg2 = 0#5 then .sxb reg1 else .satsub reg1 reg2)
  | 0b000110 => .ok (if reg2 = 0#5 then .zxh reg1 else .sataddReg reg1 reg2)
  | 0b000111 => .ok (if reg2 = 0#5 then .sxh reg1 else .mulhReg reg1 reg2)
  | 0b001000 => .ok (.orReg reg1 reg2)
  | 0b001001 => .ok (.xorReg reg1 reg2)
  | 0b001010 => .ok (.andReg reg1 reg2)
  | 0b001011 => .ok (.tst reg1 reg2)
  | 0b001100 => .ok (.subr reg1 reg2)
  | 0b001101 => .ok (.sub reg1 reg2)
  | 0b001110 => .ok (.addReg reg1 reg2)
  | 0b001111 => .ok (.cmpReg reg1 reg2)
  | 0b010000 => .ok (.movImm5 reg1 reg2)
  | 0b010001 => .ok (.sataddImm5 reg1 reg2)
  | 0b010010 => .ok (.addImm5 reg1 reg2)
  | 0b010011 => .ok (.cmpImm5 reg1 reg2)
  | 0b010100 => .ok (.shrImm5 reg1 reg2)
  | 0b010101 => .ok (.sarImm5 reg1 reg2)
  | 0b010110 => .ok (.shlImm5 reg1 reg2)
  | _ => -- 010111
    if reg2 = 0#5 then .error .mulhImm5R0 else .ok (.mulhImm5 reg1 reg2)

/-- A 16-bit instruction (30_encoding.md R173 step 2). -/
def decode16 (h0 : Half) : Except UndefinedClass Instr :=
  let reg2 := bits15to11 h0
  match (bits10to7 h0).toNat with
  | 0b0110 => .ok (.sldB (h0.extractLsb' 0 7) reg2)
  | 0b0111 => .ok (.sstB reg2 (h0.extractLsb' 0 7))
  | 0b1000 => .ok (.sldH (h0.extractLsb' 0 7 ++ 0#1) reg2)
  | 0b1001 => .ok (.sstH reg2 (h0.extractLsb' 0 7 ++ 0#1))
  | 0b1010 =>
    .ok (if bit0 h0 = 0#1 then .sldW (h0.extractLsb' 1 6 ++ 0#2) reg2
      else .sstW reg2 (h0.extractLsb' 1 6 ++ 0#2))
  | 0b1011 => .ok (.bcond (Cond.ofCode (h0.extractLsb' 0 4)) (reg2 ++ h0.extractLsb' 4 3 ++ 0#1))
  | _ =>
    if reg2 = 0#5 ∧ bits10to6 h0 = 0b01000#5 then .ok (.callt (h0.extractLsb' 0 6))
    else decode16Opcode h0

/-- PREPARE, by the sub-opcode bits 20..16 (30_encoding.md R163, R171 (e)). -/
def decodePrepare (h0 h1 h2 h3 : Half) : Except UndefinedClass Instr :=
  let list12 := regListOf h0 h1
  let imm5 := h0.extractLsb' 1 5
  match (bits4to0 h1).toNat with
  | 0b00001 => .ok (.prepare list12 imm5)
  | 0b00011 => .ok (.prepareSp list12 imm5)
  | 0b01011 => .ok (.prepareImm16 list12 imm5 h2)
  | 0b10011 => .ok (.prepareHi16 list12 imm5 h2)
  | 0b11011 => .ok (.prepareImm32 list12 imm5 (h3 ++ h2))
  | _ => .error .prepareSubOpcode

/-- The extended map (30_encoding.md R168, R169) and the fixed bits of its instructions (R174, R178). -/
def decodeExtended (h0 h1 : Half) : Except UndefinedClass Instr :=
  let reg1 := bits4to0 h0
  let reg2 := bits15to11 h0
  let reg3 := bits15to11 h1
  let low := bits4to1 h1                         -- bits 20..17
  let second (low : BitVec 4) : Bool := decide (reg3 = 0#5 ∧ bits4to1 h1 = low)
  let noReg1 : Bool := decide (reg1 = 0#5)
  let noRegs : Bool := decide (reg1 = 0#5 ∧ reg2 = 0#5)
  let noBit4 : Bool := decide (h0.extractLsb' 4 1 = 0#1)
  match (bits10to5 h1).toNat with                -- bits 26..21
  | 0b000000 => withFixedBits (noBit4 && second 0#4) (.setf (Cond.ofCode (h0.extractLsb' 0 4)) reg2)
  | 0b000001 => withFixedBits (second 0#4) (.ldsr reg1 reg2)
  | 0b000010 => withFixedBits (second 0#4) (.stsr reg1 reg2)
  | 0b000100 => withFixedBits (second 0#4) (.shrReg reg1 reg2)
  | 0b000101 => withFixedBits (second 0#4) (.sarReg reg1 reg2)
  | 0b000110 => withFixedBits (second 0#4) (.shlReg reg1 reg2)
  | 0b000111 =>
    match (h1.extractLsb' 1 2).toNat with        -- bits 18, 17
    | 0b00 => withFixedBits (second 0b0000#4) (.set1Reg reg2 reg1)
    | 0b01 => withFixedBits (second 0b0001#4) (.not1Reg reg2 reg1)
    | 0b10 => withFixedBits (second 0b0010#4) (.clr1Reg reg2 reg1)
    | _ => withFixedBits (second 0b0011#4) (.tst1Reg reg2 reg1)
  | 0b001000 => withFixedBits (decide (reg2 = 0#5) && second 0#4) (.trap reg1)
  | 0b001001 => withFixedBits (noRegs && second 0#4) .halt
  | 0b001010 =>
    match (h1.extractLsb' 1 2).toNat with
    | 0b00 => withFixedBits (noRegs && second 0b0000#4) .reti
    | 0b01 => .error .extendedMapCell
    | 0b10 => withFixedBits (noRegs && second 0b0010#4) .ctret
    | _ => withFixedBits (noRegs && second 0b0011#4) .dbret
  | 0b001011 =>
    if reg2 = 0#5 then withFixedBits (noReg1 && second 0#4) .di
    else if reg2 = 0b10000#5 then withFixedBits (noReg1 && second 0#4) .ei
    else .error .extendedMapCell
  | 0b010000 => withFixedBits (noBit4 && second 0#4) (.sasf (Cond.ofCode (h0.extractLsb' 0 4)) reg2)
  | 0b010001 =>
    if low = 0b0000#4 then .ok (.mulReg reg1 reg2 reg3)
    else withFixedBits (decide (low = 0b0001#4)) (.muluReg reg1 reg2 reg3)
  | 0b010010 | 0b010011 =>
    let imm9 := h1.extractLsb' 2 4 ++ reg1
    .ok (if h1.extractLsb' 1 1 = 0#1 then .mulImm9 imm9 reg2 reg3 else .muluImm9 imm9 reg2 reg3)
  | 0b010100 =>
    if low = 0b0000#4 then .ok (.divhReg3 reg1 reg2 reg3)
    else withFixedBits (decide (low = 0b0001#4)) (.divhu reg1 reg2 reg3)
  | 0b010110 =>
    if low = 0b0000#4 then .ok (.div reg1 reg2 reg3)
    else withFixedBits (decide (low = 0b0001#4)) (.divu reg1 reg2 reg3)
  | 0b011000 => .ok (.cmovImm5 (Cond.ofCode low) reg1 reg2 reg3)
  | 0b011001 => .ok (.cmovReg (Cond.ofCode low) reg1 reg2 reg3)
  | 0b011010 =>
    match (h1.extractLsb' 1 2).toNat with
    | 0b00 => withFixedBits (noReg1 && decide (low = 0b0000#4)) (.bsw reg2 reg3)
    | 0b01 => withFixedBits (noReg1 && decide (low = 0b0001#4)) (.bsh reg2 reg3)
    | 0b10 => withFixedBits (noReg1 && decide (low = 0b0010#4)) (.hsw reg2 reg3)
    | _ => .error .extendedMapCell
  | _ => .error .extendedMapCell                 -- 000011, 0011xx, 010101, 010111, 011011

/-- The illegal instruction code: bits 26..23 from 0111 up (30_encoding.md R170). -/
def decodeIllegal (h0 h1 : Half) : Instr :=
  if bits10to7 h1 = 0b0111#4 then
    .illegal0111 (bits15to11 h0) (bits4to0 h0) (bits15to11 h1) (h1.extractLsb' 1 6)
  else
    .illegal1xxx (bits15to11 h0) (bits4to0 h0) (bits15to11 h1) (h1.extractLsb' 7 3) (h1.extractLsb' 1 6)

/-- An instruction of 32 bits or more (30_encoding.md R173 step 3). -/
def decode32 (h0 h1 h2 h3 : Half) : Except UndefinedClass Instr :=
  let reg1 := bits4to0 h0
  let reg2 := bits15to11 h0
  if bits10to6 h0 = 0b11110#5 then
    if bit0 h1 = 0#1 then
      let disp22 := h0.extractLsb' 0 6 ++ bits15to1 h1 ++ 0#1
      .ok (if reg2 = 0#5 then .jr disp22 else .jarl disp22 reg2)
    else if reg2 = 0#5 then decodePrepare h0 h1 h2 h3
    else .ok (.ldBu (bits15to1 h1 ++ h0.extractLsb' 5 1) reg1 reg2)
  else if reg2 = 0#5 ∧ bits10to6 h0 = 0b11001#5 then
    .ok (if bits4to0 h1 = 0#5 then .dispose (h0.extractLsb' 1 5) (regListOf h0 h1)
      else .disposeJump (h0.extractLsb' 1 5) (regListOf h0 h1) (bits4to0 h1))
  else
    match (bits10to5 h0).toNat with
    | 0b110000 => .ok (.addi h1 reg1 reg2)
    | 0b110001 => .ok (if reg2 = 0#5 then .movImm32 (h2 ++ h1) reg1 else .movea h1 reg1 reg2)
    | 0b110010 => .ok (.movhi h1 reg1 reg2)
    | 0b110011 => .ok (.satsubi h1 reg1 reg2)
    | 0b110100 => .ok (.ori h1 reg1 reg2)
    | 0b110101 => .ok (.xori h1 reg1 reg2)
    | 0b110110 => .ok (.andi h1 reg1 reg2)
    | 0b110111 => if reg2 = 0#5 then .error .mulhiR0 else .ok (.mulhi h1 reg1 reg2)
    | 0b111000 => .ok (.ldB h1 reg1 reg2)
    | 0b111001 =>
      .ok (if bit0 h1 = 0#1 then .ldH (bits15to1 h1 ++ 0#1) reg1 reg2 else .ldW (bits15to1 h1 ++ 0#1) reg1 reg2)
    | 0b111010 => .ok (.stB reg2 h1 reg1)
    | 0b111011 =>
      .ok (if bit0 h1 = 0#1 then .stH reg2 (bits15to1 h1 ++ 0#1) reg1 else .stW reg2 (bits15to1 h1 ++ 0#1) reg1)
    | 0b111110 =>
      let bit3 := h0.extractLsb' 11 3
      match (h0.extractLsb' 14 2).toNat with
      | 0b00 => .ok (.set1Disp bit3 h1 reg1)
      | 0b01 => .ok (.not1Disp bit3 h1 reg1)
      | 0b10 => .ok (.clr1Disp bit3 h1 reg1)
      | _ => .ok (.tst1Disp bit3 h1 reg1)
    | _ => -- 111111
      if bit0 h1 = 1#1 then
        if reg2 = 0#5 then .error .ldHuR0 else .ok (.ldHu (bits15to1 h1 ++ 0#1) reg1 reg2)
      else if 7 ≤ (bits10to7 h1).toNat then .ok (decodeIllegal h0 h1)
      else decodeExtended h0 h1

/-- The instruction that four half-words begin with, or its class of undefined encodings (30_encoding.md R173). -/
def decodeHalves (h0 h1 h2 h3 : Half) : Except UndefinedClass Instr :=
  if h0.extractLsb' 9 2 = 3#2 then decode32 h0 h1 h2 h3 else decode16 h0

/-- The length of an instruction in bytes (30_encoding.md R141). -/
def Instr.length : Instr → Nat
  | .nop | .movReg _ _ | .notReg _ _ | .divhReg _ _ | .switch _ | .jmp _ => 2
  | .satsubr _ _ | .satsub _ _ | .sataddReg _ _ | .mulhReg _ _ => 2
  | .zxb _ | .sxb _ | .zxh _ | .sxh _ => 2
  | .orReg _ _ | .xorReg _ _ | .andReg _ _ | .tst _ _ => 2
  | .subr _ _ | .sub _ _ | .addReg _ _ | .cmpReg _ _ | .dbtrap => 2
  | .movImm5 _ _ | .sataddImm5 _ _ | .addImm5 _ _ | .cmpImm5 _ _ | .callt _ => 2
  | .shrImm5 _ _ | .sarImm5 _ _ | .shlImm5 _ _ | .mulhImm5 _ _ | .bcond _ _ => 2
  | .sldBu _ _ | .sldHu _ _ | .sldB _ _ | .sstB _ _ => 2
  | .sldH _ _ | .sstH _ _ | .sldW _ _ | .sstW _ _ => 2
  | .jarl _ _ | .jr _ => 4
  | .addi _ _ _ | .movea _ _ _ | .movhi _ _ _ | .satsubi _ _ _ => 4
  | .movImm32 _ _ => 6
  | .ori _ _ _ | .xori _ _ _ | .andi _ _ _ | .mulhi _ _ _ => 4
  | .ldB _ _ _ | .ldH _ _ _ | .ldW _ _ _ | .stB _ _ _ | .stH _ _ _ | .stW _ _ _ => 4
  | .ldBu _ _ _ | .ldHu _ _ _ => 4
  | .set1Disp _ _ _ | .not1Disp _ _ _ | .clr1Disp _ _ _ | .tst1Disp _ _ _ => 4
  | .setf _ _ | .ldsr _ _ | .stsr _ _ | .shrReg _ _ | .sarReg _ _ | .shlReg _ _ => 4
  | .set1Reg _ _ | .not1Reg _ _ | .clr1Reg _ _ | .tst1Reg _ _ | .sasf _ _ => 4
  | .trap _ | .halt | .reti | .ctret | .dbret | .di | .ei => 4
  | .mulReg _ _ _ | .muluReg _ _ _ => 4
  | .divhReg3 _ _ _ | .divhu _ _ _ | .div _ _ _ | .divu _ _ _ => 4
  | .cmovReg _ _ _ _ | .mulImm9 _ _ _ | .muluImm9 _ _ _ | .cmovImm5 _ _ _ _ => 4
  | .bsw _ _ | .bsh _ _ | .hsw _ _ => 4
  | .disposeJump _ _ _ | .dispose _ _ | .prepare _ _ | .prepareSp _ _ => 4
  | .prepareImm16 _ _ _ | .prepareHi16 _ _ _ => 6
  | .prepareImm32 _ _ _ => 8
  | .illegal0111 _ _ _ _ | .illegal1xxx _ _ _ _ _ => 4

/-- Why a list of bytes does not begin with an instruction. -/
inductive DecodeError where
  /-- The bytes begin with an undefined encoding of this class. -/
  | undefined (c : UndefinedClass)
  /-- The list ends before the instruction does. -/
  | truncated
  deriving DecidableEq, Repr

/-- The k-th half-word of a list of bytes, little-endian (30_encoding.md R140); 0 past the end. -/
def halfOfBytes (bytes : List Byte) (k : Nat) : Half := bytes.getD (2 * k + 1) 0#8 ++ bytes.getD (2 * k) 0#8

/-- The instruction at the head of a list of bytes, and the bytes after it. -/
def decode (bytes : List Byte) : Except DecodeError (Instr × List Byte) :=
  if bytes.length < 2 then .error .truncated
  else
    match decodeHalves (halfOfBytes bytes 0) (halfOfBytes bytes 1) (halfOfBytes bytes 2) (halfOfBytes bytes 3) with
    | .error c => .error (.undefined c)
    | .ok i => if bytes.length < i.length then .error .truncated else .ok (i, bytes.drop i.length)

/-! ### The encoder -/

/-- Format I, II, VI, VII, IX to XII: reg2, the opcode, and the bits 4..0 (30_encoding.md R151). -/
def formatI (reg2 : BitVec 5) (opcode : BitVec 6) (low : BitVec 5) : Half := reg2 ++ opcode ++ low

/-- The second half-word of formats XI and XII: reg3, bits 26..21, bits 20..17, bit 16 = 0 (R161, R162). -/
def formatXI (reg3 : BitVec 5) (sub : BitVec 6) (low : BitVec 4) : Half := reg3 ++ sub ++ low ++ 0#1

/-- Format III (R153): the displacement bits 8..4, 1011, bits 3..1, the condition code. -/
def formatIII (high : BitVec 5) (low : BitVec 3) (code : BitVec 4) : Half := high ++ 0b1011#4 ++ low ++ code

/-- Format IV, shape A (R154). -/
def formatIVA (reg2 : BitVec 5) (opcode : BitVec 4) (low : BitVec 7) : Half := reg2 ++ opcode ++ low

/-- Format IV, shape B (R154). -/
def formatIVB (reg2 : BitVec 5) (opcode : BitVec 7) (disp : BitVec 4) : Half := reg2 ++ opcode ++ disp

/-- The first half-word of formats V and XIII, of LD.BU, and CALLT: a 5-bit opcode in bits 10..6 (R152, R155, R163). -/
def formatV (reg2 : BitVec 5) (opcode : BitVec 5) (low : BitVec 6) : Half := reg2 ++ opcode ++ low

/-- Format VIII (R158): the sub-opcode, the bit number, 111110, reg1. -/
def formatVIII (sub : BitVec 2) (bit3 : BitVec 3) (reg1 : BitVec 5) : Half := sub ++ bit3 ++ 0b111110#6 ++ reg1

/-- A second half-word of a 15-bit displacement field and bit 16 (R155, R157). -/
def disp15Half (disp : BitVec 15) (bit16 : BitVec 1) : Half := disp ++ bit16

/-- The bits 31..21 of the register list field, and the sub-opcode or register field below (R163, R400). -/
def listHalf (list12 : RegList) (low : BitVec 5) : Half :=
  list12.extractLsb' 4 1 ++ list12.extractLsb' 5 1 ++ list12.extractLsb' 6 1 ++ list12.extractLsb' 7 1 ++
  list12.extractLsb' 0 1 ++ list12.extractLsb' 1 1 ++ list12.extractLsb' 2 1 ++ list12.extractLsb' 3 1 ++
  list12.extractLsb' 8 1 ++ list12.extractLsb' 9 1 ++ list12.extractLsb' 11 1 ++ low

/-- The first half-word of PREPARE and DISPOSE: the 5-bit opcode, imm5 and bit 0 of list12, r30 (R163, R400). -/
def formatXIII (opcode : BitVec 5) (imm5 : BitVec 5) (list12 : RegList) : Half :=
  formatV 0#5 opcode (imm5 ++ list12.extractLsb' 10 1)

/-- The half-words of an instruction, the one at the lowest address first (30_encoding.md R174). -/
def encode : Instr → List Half
  | .nop => [0x0000#16]
  | .movReg reg1 reg2 => [formatI reg2 0b000000#6 reg1]
  | .notReg reg1 reg2 => [formatI reg2 0b000001#6 reg1]
  | .divhReg reg1 reg2 => [formatI reg2 0b000010#6 reg1]
  | .switch reg1 => [formatI 0#5 0b000010#6 reg1]
  | .jmp reg1 => [formatI 0#5 0b000011#6 reg1]
  | .satsubr reg1 reg2 => [formatI reg2 0b000100#6 reg1]
  | .satsub reg1 reg2 => [formatI reg2 0b000101#6 reg1]
  | .sataddReg reg1 reg2 => [formatI reg2 0b000110#6 reg1]
  | .mulhReg reg1 reg2 => [formatI reg2 0b000111#6 reg1]
  | .zxb reg1 => [formatI 0#5 0b000100#6 reg1]
  | .sxb reg1 => [formatI 0#5 0b000101#6 reg1]
  | .zxh reg1 => [formatI 0#5 0b000110#6 reg1]
  | .sxh reg1 => [formatI 0#5 0b000111#6 reg1]
  | .orReg reg1 reg2 => [formatI reg2 0b001000#6 reg1]
  | .xorReg reg1 reg2 => [formatI reg2 0b001001#6 reg1]
  | .andReg reg1 reg2 => [formatI reg2 0b001010#6 reg1]
  | .tst reg1 reg2 => [formatI reg2 0b001011#6 reg1]
  | .subr reg1 reg2 => [formatI reg2 0b001100#6 reg1]
  | .sub reg1 reg2 => [formatI reg2 0b001101#6 reg1]
  | .addReg reg1 reg2 => [formatI reg2 0b001110#6 reg1]
  | .cmpReg reg1 reg2 => [formatI reg2 0b001111#6 reg1]
  | .dbtrap => [0xF840#16]
  | .movImm5 imm5 reg2 => [formatI reg2 0b010000#6 imm5]
  | .sataddImm5 imm5 reg2 => [formatI reg2 0b010001#6 imm5]
  | .addImm5 imm5 reg2 => [formatI reg2 0b010010#6 imm5]
  | .cmpImm5 imm5 reg2 => [formatI reg2 0b010011#6 imm5]
  | .callt imm6 => [formatV 0#5 0b01000#5 imm6]
  | .shrImm5 imm5 reg2 => [formatI reg2 0b010100#6 imm5]
  | .sarImm5 imm5 reg2 => [formatI reg2 0b010101#6 imm5]
  | .shlImm5 imm5 reg2 => [formatI reg2 0b010110#6 imm5]
  | .mulhImm5 imm5 reg2 => [formatI reg2 0b010111#6 imm5]
  | .bcond cond disp9 => [formatIII (disp9.extractLsb' 4 5) (disp9.extractLsb' 1 3) cond.code]
  | .sldBu disp4 reg2 => [formatIVB reg2 0b0000110#7 disp4]
  | .sldHu disp5 reg2 => [formatIVB reg2 0b0000111#7 (disp5.extractLsb' 1 4)]
  | .sldB disp7 reg2 => [formatIVA reg2 0b0110#4 disp7]
  | .sstB reg2 disp7 => [formatIVA reg2 0b0111#4 disp7]
  | .sldH disp8 reg2 => [formatIVA reg2 0b1000#4 (disp8.extractLsb' 1 7)]
  | .sstH reg2 disp8 => [formatIVA reg2 0b1001#4 (disp8.extractLsb' 1 7)]
  | .sldW disp8 reg2 => [formatIVA reg2 0b1010#4 (disp8.extractLsb' 2 6 ++ 0#1)]
  | .sstW reg2 disp8 => [formatIVA reg2 0b1010#4 (disp8.extractLsb' 2 6 ++ 1#1)]
  | .jarl disp22 reg2 => [formatV reg2 0b11110#5 (disp22.extractLsb' 16 6), disp15Half (disp22.extractLsb' 1 15) 0#1]
  | .jr disp22 => [formatV 0#5 0b11110#5 (disp22.extractLsb' 16 6), disp15Half (disp22.extractLsb' 1 15) 0#1]
  | .addi imm16 reg1 reg2 => [formatI reg2 0b110000#6 reg1, imm16]
  | .movea imm16 reg1 reg2 => [formatI reg2 0b110001#6 reg1, imm16]
  | .movhi imm16 reg1 reg2 => [formatI reg2 0b110010#6 reg1, imm16]
  | .satsubi imm16 reg1 reg2 => [formatI reg2 0b110011#6 reg1, imm16]
  | .movImm32 imm32 reg1 => [formatI 0#5 0b110001#6 reg1, imm32.extractLsb' 0 16, imm32.extractLsb' 16 16]
  | .ori imm16 reg1 reg2 => [formatI reg2 0b110100#6 reg1, imm16]
  | .xori imm16 reg1 reg2 => [formatI reg2 0b110101#6 reg1, imm16]
  | .andi imm16 reg1 reg2 => [formatI reg2 0b110110#6 reg1, imm16]
  | .mulhi imm16 reg1 reg2 => [formatI reg2 0b110111#6 reg1, imm16]
  | .ldB disp16 reg1 reg2 => [formatI reg2 0b111000#6 reg1, disp16]
  | .ldH disp16 reg1 reg2 => [formatI reg2 0b111001#6 reg1, disp15Half (disp16.extractLsb' 1 15) 0#1]
  | .ldW disp16 reg1 reg2 => [formatI reg2 0b111001#6 reg1, disp15Half (disp16.extractLsb' 1 15) 1#1]
  | .stB reg2 disp16 reg1 => [formatI reg2 0b111010#6 reg1, disp16]
  | .stH reg2 disp16 reg1 => [formatI reg2 0b111011#6 reg1, disp15Half (disp16.extractLsb' 1 15) 0#1]
  | .stW reg2 disp16 reg1 => [formatI reg2 0b111011#6 reg1, disp15Half (disp16.extractLsb' 1 15) 1#1]
  | .ldBu disp16 reg1 reg2 =>
    [formatV reg2 0b11110#5 (disp16.extractLsb' 0 1 ++ reg1), disp15Half (disp16.extractLsb' 1 15) 1#1]
  | .ldHu disp16 reg1 reg2 => [formatI reg2 0b111111#6 reg1, disp15Half (disp16.extractLsb' 1 15) 1#1]
  | .set1Disp bit3 disp16 reg1 => [formatVIII 0b00#2 bit3 reg1, disp16]
  | .not1Disp bit3 disp16 reg1 => [formatVIII 0b01#2 bit3 reg1, disp16]
  | .clr1Disp bit3 disp16 reg1 => [formatVIII 0b10#2 bit3 reg1, disp16]
  | .tst1Disp bit3 disp16 reg1 => [formatVIII 0b11#2 bit3 reg1, disp16]
  | .setf cond reg2 => [formatI reg2 0b111111#6 (0#1 ++ cond.code), 0x0000#16]
  | .ldsr reg2 regID => [formatI regID 0b111111#6 reg2, 0x0020#16]
  | .stsr regID reg2 => [formatI reg2 0b111111#6 regID, 0x0040#16]
  | .shrReg reg1 reg2 => [formatI reg2 0b111111#6 reg1, 0x0080#16]
  | .sarReg reg1 reg2 => [formatI reg2 0b111111#6 reg1, 0x00A0#16]
  | .shlReg reg1 reg2 => [formatI reg2 0b111111#6 reg1, 0x00C0#16]
  | .set1Reg reg2 reg1 => [formatI reg2 0b111111#6 reg1, 0x00E0#16]
  | .not1Reg reg2 reg1 => [formatI reg2 0b111111#6 reg1, 0x00E2#16]
  | .clr1Reg reg2 reg1 => [formatI reg2 0b111111#6 reg1, 0x00E4#16]
  | .tst1Reg reg2 reg1 => [formatI reg2 0b111111#6 reg1, 0x00E6#16]
  | .sasf cond reg2 => [formatI reg2 0b111111#6 (0#1 ++ cond.code), 0x0200#16]
  | .trap vector => [formatI 0#5 0b111111#6 vector, 0x0100#16]
  | .halt => [0x07E0#16, 0x0120#16]
  | .reti => [0x07E0#16, 0x0140#16]
  | .ctret => [0x07E0#16, 0x0144#16]
  | .dbret => [0x07E0#16, 0x0146#16]
  | .di => [0x07E0#16, 0x0160#16]
  | .ei => [0x87E0#16, 0x0160#16]
  | .mulReg reg1 reg2 reg3 => [formatI reg2 0b111111#6 reg1, formatXI reg3 0b010001#6 0b0000#4]
  | .muluReg reg1 reg2 reg3 => [formatI reg2 0b111111#6 reg1, formatXI reg3 0b010001#6 0b0001#4]
  | .divhReg3 reg1 reg2 reg3 => [formatI reg2 0b111111#6 reg1, formatXI reg3 0b010100#6 0b0000#4]
  | .divhu reg1 reg2 reg3 => [formatI reg2 0b111111#6 reg1, formatXI reg3 0b010100#6 0b0001#4]
  | .div reg1 reg2 reg3 => [formatI reg2 0b111111#6 reg1, formatXI reg3 0b010110#6 0b0000#4]
  | .divu reg1 reg2 reg3 => [formatI reg2 0b111111#6 reg1, formatXI reg3 0b010110#6 0b0001#4]
  | .cmovReg cond reg1 reg2 reg3 => [formatI reg2 0b111111#6 reg1, formatXI reg3 0b011001#6 cond.code]
  | .mulImm9 imm9 reg2 reg3 =>
    [formatI reg2 0b111111#6 (imm9.extractLsb' 0 5), reg3 ++ 0b01001#5 ++ imm9.extractLsb' 5 4 ++ 0b00#2]
  | .muluImm9 imm9 reg2 reg3 =>
    [formatI reg2 0b111111#6 (imm9.extractLsb' 0 5), reg3 ++ 0b01001#5 ++ imm9.extractLsb' 5 4 ++ 0b10#2]
  | .cmovImm5 cond imm5 reg2 reg3 => [formatI reg2 0b111111#6 imm5, formatXI reg3 0b011000#6 cond.code]
  | .bsw reg2 reg3 => [formatI reg2 0b111111#6 0#5, formatXI reg3 0b011010#6 0b0000#4]
  | .bsh reg2 reg3 => [formatI reg2 0b111111#6 0#5, formatXI reg3 0b011010#6 0b0001#4]
  | .hsw reg2 reg3 => [formatI reg2 0b111111#6 0#5, formatXI reg3 0b011010#6 0b0010#4]
  | .disposeJump imm5 list12 reg1 => [formatXIII 0b11001#5 imm5 list12, listHalf list12 reg1]
  | .dispose imm5 list12 => [formatXIII 0b11001#5 imm5 list12, listHalf list12 0#5]
  | .prepare list12 imm5 => [formatXIII 0b11110#5 imm5 list12, listHalf list12 0b00001#5]
  | .prepareSp list12 imm5 => [formatXIII 0b11110#5 imm5 list12, listHalf list12 0b00011#5]
  | .prepareImm16 list12 imm5 imm16 => [formatXIII 0b11110#5 imm5 list12, listHalf list12 0b01011#5, imm16]
  | .prepareHi16 list12 imm5 imm16 => [formatXIII 0b11110#5 imm5 list12, listHalf list12 0b10011#5, imm16]
  | .prepareImm32 list12 imm5 imm32 =>
    [formatXIII 0b11110#5 imm5 list12, listHalf list12 0b11011#5, imm32.extractLsb' 0 16, imm32.extractLsb' 16 16]
  | .illegal0111 bits15 bits4 bits31 bits22 =>
    [formatI bits15 0b111111#6 bits4, bits31 ++ 0b0111#4 ++ bits22 ++ 0#1]
  | .illegal1xxx bits15 bits4 bits31 bits25 bits22 =>
    [formatI bits15 0b111111#6 bits4, bits31 ++ 1#1 ++ bits25 ++ bits22 ++ 0#1]

/-- The decoder on a list of half-words, zeros past its end. -/
def decodeHalfList (hs : List Half) : Except UndefinedClass Instr :=
  decodeHalves (hs.getD 0 0#16) (hs.getD 1 0#16) (hs.getD 2 0#16) (hs.getD 3 0#16)

/-- The eight bytes of a table word in memory order: bit 0 of w is bit 0 of the first half-word, bits from nbits up are 0
(opcode_table.json; 30_encoding.md R140). -/
def tableBytes (nbits w : Nat) : List Byte :=
  [0, 1, 2, 3, 4, 5, 6, 7].map fun k => if 8 * k < nbits then BitVec.ofNat 8 (w / 2 ^ (8 * k)) else 0#8

/-- The instruction that the decoder reads from a table word. -/
def decodeTableWord (nbits w : Nat) : Option Instr :=
  match decode (tableBytes nbits w) with
  | .ok (i, _) => some i
  | .error _ => none

end Sys2Proof
end

