-- ==== Sys2Proof/Config.lean ====
section
/-! DEFINITION. The free values: what the manual leaves without a value although the machine goes on.
Each is a constant with no body, so nothing can be proved of its value. -/

namespace Sys2Proof

/-- The five division forms, as the parameter `DIV_BY_ZERO` of 93_implementation_defined.md U6 names them. -/
inductive DivForm where
  | div      -- DIV reg1, reg2, reg3
  | divhReg  -- DIVH reg1, reg2
  | divhReg3 -- DIVH reg1, reg2, reg3
  | divhu    -- DIVHU reg1, reg2, reg3
  | divu     -- DIVU reg1, reg2, reg3
  deriving DecidableEq, Repr

namespace Config

/-- Quotient of a division by zero, of the form, GR[reg2] and GR[reg1] (42_arithmetic.md R260 (d)). Log 16. -/
opaque divByZeroQuotient : DivForm → Word → Word → Word

/-- Remainder of a division by zero (42_arithmetic.md R260 (d)). Log 16. -/
opaque divByZeroRemainder : DivForm → Word → Word → Word

/-- The S flag after a division by zero (42_arithmetic.md R260 (d)). Log 16. -/
opaque divByZeroS : DivForm → Word → Word → Bool

/-- The Z flag after a division by zero (42_arithmetic.md R260 (d)). Log 16. -/
opaque divByZeroZ : DivForm → Word → Word → Bool

/-- The byte that the host returns for a read of an address it answers for, data or fetch: of the state's tick and the
address (20_memory.md R100, 92_eei_decisions.md D4, 93_implementation_defined.md U11 (h)). Log 3. -/
opaque hostByte : Nat → Word → Byte

end Config

end Sys2Proof
end

