-- ==== Sys2Proof/Machine/State.lean ====
section
/-! DEFINITION. The state of the V850ES core (10_state.md), its reset value (10_state.md R70, 70_reset_and_hazards.md R501),
and how a step can end. -/

namespace Sys2Proof.Machine

/-- Memory: the bytes that are not what an unlisted address reads as, by strictly rising address (20_memory.md R90). -/
abbrev Memory := List Host.Cell

/-- The twelve system registers of 10_state.md R38. -/
inductive SysReg where
  | eipc | eipsw | fepc | fepsw | ecr | psw | ctpc | ctpsw | dbpc | dbpsw | ctbp | dir
  deriving DecidableEq, Repr

/-- The eight flags of PSW, bits 0 to 7 (10_state.md R43). -/
inductive PswBit where
  | z | s | ov | cy | sat | id | ep | np
  deriving DecidableEq, Repr

/-- The non-maskable inputs (60_exceptions.md R443); which of them a product has is `Product.nmiInputs`. -/
inductive NmiInput where
  | nmi0 | nmi1 | nmi2
  deriving DecidableEq, Repr

/-- The events of 00_scope.md R20 and 60_exceptions.md R440. -/
inductive Event where
  | nmi (k : NmiInput)
  | maskable (code : Half)
  | softwareException (vector : BitVec 5)
  | exceptionTrap
  | debugTrap
  deriving DecidableEq, Repr

/-- The request lines as the host drives them (60_exceptions.md R449): a request pending on each non-maskable input, and
the exception code of the one maskable request that the INTC presents, if any. -/
structure Requests where
  nmi0 : Bool
  nmi1 : Bool
  nmi2 : Bool
  int  : Option Half
  deriving DecidableEq, Repr

/-- What the host does at one instruction boundary: it may assert reset (70_reset_and_hazards.md R500) and may change the
request lines (none: they stay as they are). -/
structure HostInput where
  reset : Bool
  lines : Option Requests
  deriving DecidableEq, Repr

/-- A range of addresses. -/
structure Area where
  base : Nat
  size : Nat
  deriving DecidableEq, Repr

/-- A populated range of external memory; in one that is not writable a store changes nothing (log 2). -/
structure Bank where
  area : Area
  writable : Bool
  deriving DecidableEq, Repr

/-- The parameters of 00_scope.md R11 that the core's behaviour depends on: NMI_INPUTS, IROM_SIZE, IRAM_SIZE, EXT_MEM. The
maskable sources are the host's (60_exceptions.md R442, log 40); PRODUCT_TYPE and BUS_WAITS are timing (log 26). -/
structure Product where
  nmiInputs : List NmiInput
  /-- Bytes of internal ROM from 00000000H on (20_memory.md R108). -/
  iromSize : Nat
  /-- Bytes of internal RAM, ending at 03FFEFFFH (20_memory.md R108). -/
  iramSize : Nat
  /-- The populated ranges of the rest of the data space; where two overlap the first counts. -/
  extMem : List Bank
  deriving DecidableEq, Repr

/-- What an address belongs to (20_memory.md R110): memory that a store leaves or writes, or what the host answers for. -/
inductive Target where
  | rom | ram | host
  deriving DecidableEq, Repr

/-- The state of the machine. INVENTORY.md gives every field its rule and its reset value. -/
structure State where
  /-- r0 to r31 (10_state.md R30); r0 is hard-wired by `State.reg` and `State.setReg`. -/
  gr : Vector Word 32
  pc : Word
  eipc : Word
  eipsw : Word
  fepc : Word
  fepsw : Word
  ecr : Word
  psw : Word
  ctpc : Word
  ctpsw : Word
  dbpc : Word
  dbpsw : Word
  ctbp : Word
  dir : Word
  mem : Memory
  /-- HALT mode (10_state.md R57 (b)). -/
  halted : Bool
  /-- Whether the coming boundary is an acceptance point (60_exceptions.md R445). -/
  acceptPoint : Bool
  /-- Requests pending at the core (10_state.md R57 (a)). -/
  requests : Requests
  /-- The model's own: what the host does at the coming boundaries, one element at each (log 9). -/
  host : List HostInput
  /-- The product's parameters, constant (00_scope.md R11). -/
  product : Product
  /-- The model's own: the devices' address ranges, besides the peripheral I/O area; the host answers for them (log 2). -/
  hostAreas : List Area
  /-- The model's own: the counter that makes the free bytes of the host areas fresh (log 3, log 8). -/
  tick : Nat
  deriving DecidableEq, Repr

/-- The machine has no fault (60_exceptions.md R481): no step raises one. -/
inductive Fault
  deriving DecidableEq, Repr

/-- Why a step has no meaning. -/
inductive Refusal where
  /-- Raised by `exec` for an instruction that this model gives no meaning. Safe: the run ends. -/
  | notModelled (mnemonic : String)
  /-- Raised by `step` for an undefined encoding (93_implementation_defined.md U1, U2: operation not guaranteed).
  Safe: the run ends where the hardware does something the manual does not state. -/
  | undefinedInstruction (c : UndefinedClass)
  /-- Raised by LDSR and STSR for a reserved system register number (93_implementation_defined.md U3). Safe, as above. -/
  | reservedSystemRegister (regID : BitVec 5)
  /-- Raised by LDSR for ECR and DIR (93_implementation_defined.md U4). Safe, as above. -/
  | writeProhibitedSystemRegister (regID : BitVec 5)
  /-- Raised by the register forms of MUL and MULU for the combination of 41_multiply.md R239
  (93_implementation_defined.md U5). Safe, as above. -/
  | multiplyRegisterCombination (reg1 reg2 reg3 : RegNum)
  deriving DecidableEq, Repr

/-- How an instruction or a step ends. -/
abbrev Result := Host.Outcome State Fault Refusal

/-- No request. -/
def Requests.none : Requests := { nmi0 := false, nmi1 := false, nmi2 := false, int := Option.none }

/-- The product of `State.reset` (DESIGN CHOICE, log 2, log 40): all three non-maskable inputs, no internal ROM, the largest
internal RAM, and writable external memory in the rest of the data space. -/
def Product.standard : Product :=
  { nmiInputs := [.nmi0, .nmi1, .nmi2]
    iromSize := 0
    iramSize := 0xF000
    extMem := [{ area := { base := 0, size := 0x100000000 }, writable := true }] }

/-- The machine right after reset. PC, PSW, ECR, DIR, r0: 10_state.md R70. The other registers: the manual calls them
undefined and the value 0 is the model's (DESIGN CHOICE, log 5, log 6). Memory, requests and the model's own fields: log 1,
log 2, log 7, log 8. `acceptPoint` is false by 70_reset_and_hazards.md R502 (log 10). -/
def State.reset : State :=
  { gr := Vector.replicate 32 0#32
    pc := 0#32
    eipc := 0#32, eipsw := 0#32, fepc := 0#32, fepsw := 0#32
    ecr := 0#32
    psw := 0x00000020#32
    ctpc := 0#32, ctpsw := 0#32, dbpc := 0#32, dbpsw := 0#32, ctbp := 0#32
    dir := 0#32
    mem := []
    halted := false
    acceptPoint := false
    requests := Requests.none
    host := []
    product := Product.standard
    hostAreas := []
    tick := 0 }

end Sys2Proof.Machine
end

