-- ==== Sys2Proof/Machine/Ops.lean ====
section
/-! DEFINITION. The named operations on the state: registers, program counter, flags, system registers, memory, and taking
and leaving an exception. -/

namespace Sys2Proof.Machine

/-! ### General registers -/

/-- GR[r]; r0 reads 0 (10_state.md R31). -/
def State.reg (s : State) (r : RegNum) : Word := if r = 0#5 then 0#32 else s.gr[r.toNat]'r.isLt

/-- GR[r] <- v; a write to r0 is lost (10_state.md R31, log 31). -/
def State.setReg (s : State) (r : RegNum) (v : Word) : State :=
  if r = 0#5 then s else { s with gr := s.gr.set r.toNat v r.isLt }

/-- sp is r3 (10_state.md R32). -/
def spNum : RegNum := 3#5

/-- ep is r30 (10_state.md R32). -/
def epNum : RegNum := 30#5

/-! ### Program counter -/

/-- The reduction of a value placed in PC: bits 31..26 dropped, bit 0 forced to 0 (10_state.md R35). -/
def reducePc (t : Word) : Word := t &&& 0x03FFFFFE#32

/-- pc <- t (10_state.md R35). -/
def State.setPc (s : State) (t : Word) : State := { s with pc := reducePc t }

/-- The address n bytes after this instruction's first byte, as a program address (10_state.md R36, R37). -/
def State.pcPlus (s : State) (n : Nat) : Word := reducePc (s.pc + BitVec.ofNat 32 n)

/-- The sequential advance by the instruction's length in bytes (10_state.md R36). -/
def State.advance (s : State) (len : Nat) : State := s.setPc (s.pc + BitVec.ofNat 32 len)

/-! ### The flags of PSW -/

/-- The number of a flag's bit (10_state.md R43). -/
def PswBit.index : PswBit → Nat
  | .z => 0 | .s => 1 | .ov => 2 | .cy => 3 | .sat => 4 | .id => 5 | .ep => 6 | .np => 7

/-- The PSW with that flag only. -/
def PswBit.mask (b : PswBit) : Word := 1#32 <<< b.index

/-- PSW.b. -/
def State.flag (s : State) (b : PswBit) : Bool := s.psw.getLsbD b.index

/-- PSW.b <- v. -/
def State.setFlag (s : State) (b : PswBit) (v : Bool) : State :=
  { s with psw := if v then s.psw ||| b.mask else s.psw &&& ~~~b.mask }

/-- cond(cccc) (10_state.md R52). -/
def State.cond (s : State) : Cond → Bool
  | .v => s.flag .ov
  | .c => s.flag .cy
  | .z => s.flag .z
  | .nh => s.flag .cy || s.flag .z
  | .n => s.flag .s
  | .t => true
  | .lt => s.flag .s ^^ s.flag .ov
  | .le => (s.flag .s ^^ s.flag .ov) || s.flag .z
  | .nv => !s.flag .ov
  | .nc => !s.flag .cy
  | .nz => !s.flag .z
  | .h => !(s.flag .cy || s.flag .z)
  | .p => !s.flag .s
  | .sa => s.flag .sat
  | .ge => !(s.flag .s ^^ s.flag .ov)
  | .gt => !((s.flag .s ^^ s.flag .ov) || s.flag .z)

/-! ### System registers -/

/-- The bits of a system register that are not fixed to 0 (10_state.md R40 to R50). Bit 0 of DBPC: log 20. -/
def SysReg.storedBits : SysReg → Word
  | .eipc | .fepc | .ctpc | .dbpc => 0x03FFFFFF#32
  | .eipsw | .fepsw | .psw | .ctpsw | .dbpsw => 0x000000FF#32
  | .ecr => 0xFFFFFFFF#32
  | .ctbp => 0x03FFFFFE#32
  | .dir => 0x00000001#32

/-- SR[r], by name. -/
def State.sysReg (s : State) : SysReg → Word
  | .eipc => s.eipc | .eipsw => s.eipsw | .fepc => s.fepc | .fepsw => s.fepsw
  | .ecr => s.ecr | .psw => s.psw
  | .ctpc => s.ctpc | .ctpsw => s.ctpsw | .dbpc => s.dbpc | .dbpsw => s.dbpsw
  | .ctbp => s.ctbp | .dir => s.dir

/-- SR[r] <- v, by name; a bit fixed to 0 is not stored (10_state.md R50). -/
def State.setSysReg (s : State) (r : SysReg) (v : Word) : State :=
  let w := v &&& r.storedBits
  match r with
  | .eipc => { s with eipc := w } | .eipsw => { s with eipsw := w }
  | .fepc => { s with fepc := w } | .fepsw => { s with fepsw := w }
  | .ecr => { s with ecr := w } | .psw => { s with psw := w }
  | .ctpc => { s with ctpc := w } | .ctpsw => { s with ctpsw := w }
  | .dbpc => { s with dbpc := w } | .dbpsw => { s with dbpsw := w }
  | .ctbp => { s with ctbp := w } | .dir => { s with dir := w }

/-- The system register of a number; none for the reserved numbers (10_state.md R38). -/
def SysReg.ofNumber (n : BitVec 5) : Option SysReg :=
  match n.toNat with
  | 0 => some .eipc | 1 => some .eipsw | 2 => some .fepc | 3 => some .fepsw | 4 => some .ecr | 5 => some .psw
  | 16 => some .ctpc | 17 => some .ctpsw | 18 => some .dbpc | 19 => some .dbpsw | 20 => some .ctbp | 21 => some .dir
  | _ => none

/-- Whether LDSR may write the register (10_state.md R38). -/
def SysReg.ldsrAllowed : SysReg → Bool
  | .ecr | .dir => false
  | _ => true

/-- The instruction boundary that follows is not an acceptance point (47_special.md R389, log 10). -/
def State.withoutSampling (s : State) : State := { s with acceptPoint := false }

/-- HALT mode entered (10_state.md R57 (b), 47_special.md R392). -/
def State.enterHalt (s : State) : State := { s with halted := true }

/-! ### Memory -/

/-- Whether an area holds an address. -/
def Area.holds (r : Area) (a : Word) : Bool := decide (r.base ≤ a.toNat) && decide (a.toNat < r.base + r.size)

/-- The peripheral I/O area (20_memory.md R108). -/
def peripheralArea : Area := { base := 0x03FFF000, size := 0x1000 }

/-- The internal ROM area, at most the 16 MB of the external memory area (20_memory.md R108). -/
def Product.iromArea (p : Product) : Area := { base := 0, size := min p.iromSize 0x01000000 }

/-- The internal RAM area: at most 60 KB, ending at 03FFEFFFH (00_scope.md R11, 20_memory.md R108). -/
def Product.iramArea (p : Product) : Area :=
  { base := 0x03FFF000 - min p.iramSize 0xF000, size := min p.iramSize 0xF000 }

/-- What an address belongs to, by the memory map of 20_memory.md R108 with the product's parameters. An unpopulated address
is the host's (92_eei_decisions.md D4, log 2). No area has an image at another address: DESIGN CHOICE, the manual does not say
how a product decodes data addresses above 03FFFFFFH (91_not_in_source.md N7, log 41). -/
def State.target (s : State) (a : Word) : Target :=
  if peripheralArea.holds a || s.hostAreas.any (·.holds a) then .host
  else if s.product.iromArea.holds a then .rom
  else if s.product.iramArea.holds a then .ram
  else
    match s.product.extMem.find? (·.area.holds a) with
    | some bank => if bank.writable then .ram else .rom
    | none => .host

/-- Whether the host answers for an address (log 2, log 3). -/
def State.inHostArea (s : State) (a : Word) : Bool := decide (s.target a = .host)

/-- Whether a store to an address changes memory (log 2). -/
def State.inRam (s : State) (a : Word) : Bool := decide (s.target a = .ram)

/-- The byte that a read of one address returns (20_memory.md R94, R100). In a host area: a free value (log 3). -/
def State.byteAt (s : State) (a : Word) : Byte :=
  if s.inHostArea a then Config.hostByte s.tick a else s.mem.read a.toNat

/-- MemRead(a, 1). -/
def State.load1 (s : State) (a : Word) : Byte := s.byteAt a

/-- MemRead(a, 2), little-endian, each byte address modulo 2^32 (20_memory.md R94, log 21). -/
def State.load2 (s : State) (a : Word) : Half := s.byteAt (a + 1#32) ++ s.byteAt a

/-- MemRead(a, 4) (20_memory.md R94). -/
def State.load4 (s : State) (a : Word) : Word :=
  s.byteAt (a + 3#32) ++ s.byteAt (a + 2#32) ++ s.byteAt (a + 1#32) ++ s.byteAt a

/-- MemWrite(a, 1, v) (20_memory.md R95). A store to ROM or to a host area changes no cell of the model (R100, log 2,
log 3). -/
def State.store1 (s : State) (a : Word) (v : Byte) : State :=
  if s.inRam a then { s with mem := s.mem.write a.toNat v } else s

/-- MemWrite(a, 2, v) (20_memory.md R95). -/
def State.store2 (s : State) (a : Word) (v : Half) : State :=
  (s.store1 a (v.extractLsb' 0 8)).store1 (a + 1#32) (v.extractLsb' 8 8)

/-- MemWrite(a, 4, v) (20_memory.md R95). -/
def State.store4 (s : State) (a : Word) (v : Word) : State :=
  (((s.store1 a (v.extractLsb' 0 8)).store1 (a + 1#32) (v.extractLsb' 8 8)).store1
    (a + 2#32) (v.extractLsb' 16 8)).store1 (a + 3#32) (v.extractLsb' 24 8)

/-- A new tick: the free bytes that follow are not those read before (log 8). -/
def State.nextTick (s : State) : State := { s with tick := s.tick + 1 }

/-- The address of the half-word k half-words after pc, reduced like PC (20_memory.md R102, log 35). -/
def State.fetchAddress (s : State) (k : Nat) : Word := reducePc (s.pc + BitVec.ofNat 32 (2 * k))

/-- FetchHalf at k half-words after pc: MemRead of 2 bytes (20_memory.md R102), at the moment of execution (R122, log 4), in
every area (R103), and at a tick of its own. -/
def State.fetchHalf (s : State) (k : Nat) : Half := s.nextTick.load2 (s.fetchAddress k)

/-- The address of a stack access of PREPARE and DISPOSE: the low two bits masked to 0 (47_special.md R401, log 23). -/
def align4 (a : Word) : Word := a &&& 0xFFFFFFFC#32

/-! ### Taking an event -/

/-- The number k of NMIk. -/
def NmiInput.number : NmiInput → Nat
  | .nmi0 => 0 | .nmi1 => 1 | .nmi2 => 2

/-- ECR.EICC <- code (10_state.md R42, 60_exceptions.md R451). -/
def State.setEicc (s : State) (code : Half) : State := s.setSysReg .ecr (s.ecr.extractLsb' 16 16 ++ code)

/-- ECR.FECC <- code (10_state.md R42, 60_exceptions.md R451). -/
def State.setFecc (s : State) (code : Half) : State := s.setSysReg .ecr (code ++ s.ecr.extractLsb' 0 16)

/-- The entry sequence of an event with the restored PC `rpc` (60_exceptions.md R460 to R464). -/
def State.raise (s : State) (e : Event) (rpc : Word) : State :=
  match e with
  | .maskable code =>
    (((((s.setSysReg .eipc rpc).setSysReg .eipsw s.psw).setEicc code).setFlag .id true).setFlag .ep false).setPc
      (code.setWidth 32)
  | .nmi k =>
    let code : Half := BitVec.ofNat 16 (0x0010 * (k.number + 1))
    ((((((s.setSysReg .fepc rpc).setSysReg .fepsw s.psw).setFecc code).setFlag .np true).setFlag .id true).setFlag
      .ep false).setPc (code.setWidth 32)
  | .softwareException vector =>
    (((((s.setSysReg .eipc rpc).setSysReg .eipsw s.psw).setEicc (0x0040#16 + vector.setWidth 16)).setFlag
      .ep true).setFlag .id true).setPc (if vector.toNat < 16 then 0x00000040#32 else 0x00000050#32)
  | .exceptionTrap | .debugTrap =>
    ((((((s.setSysReg .dbpc rpc).setSysReg .dbpsw s.psw).setFlag .np true).setFlag .ep true).setFlag
      .id true).setSysReg .dir 1#32).setPc 0x00000060#32

/-- The return from an event: PSW and PC from a pair of save registers (10_state.md R51, R35). -/
def State.returnFrom (s : State) (pcReg pswReg : SysReg) : State :=
  (s.setSysReg .psw (s.sysReg pswReg)).setPc (s.sysReg pcReg)

end Sys2Proof.Machine
end

