-- ==== Sys2Proof/Machine/Boundary.lean ====
section
/-! DEFINITION. The instruction boundary: reset, the request lines, HALT mode, and which request is accepted
(60_exceptions.md R445 to R458, 70_reset_and_hazards.md R500, 47_special.md R392); and the fetch of an instruction. -/

namespace Sys2Proof.Machine

/-- Whether the host asserts reset at this boundary (70_reset_and_hazards.md R500). -/
def State.resetAsserted (s : State) : Bool :=
  match s.host with
  | [] => false
  | i :: _ => i.reset

/-- Whether the product has a non-maskable input (00_scope.md R11, 60_exceptions.md R443). -/
def Product.hasNmi (p : Product) (k : NmiInput) : Bool := decide (k ∈ p.nmiInputs)

/-- The request lines of the inputs that the product has (60_exceptions.md R449). -/
def Product.present (p : Product) (r : Requests) : Requests :=
  { r with
    nmi0 := r.nmi0 && p.hasNmi .nmi0, nmi1 := r.nmi1 && p.hasNmi .nmi1, nmi2 := r.nmi2 && p.hasNmi .nmi2 }

/-- The host's input of this boundary consumed: the request lines as it drives them, for the inputs that the product has
(60_exceptions.md R449, log 9). -/
def State.takeInput (s : State) : State :=
  match s.host with
  | [] => { s with requests := s.product.present s.requests }
  | i :: rest => { s with host := rest, requests := s.product.present (i.lines.getD s.requests) }

/-- System reset: the core's state is that of `State.reset`; memory and what lies outside the core stay (70 R500, R501,
log 27). -/
def State.systemReset (s : State) : State :=
  { State.reset with
    mem := s.mem, requests := s.requests, host := s.host, product := s.product, hostAreas := s.hostAreas, tick := s.tick }

/-- Some request is pending; any of them ends HALT mode (47_special.md R392, log 13). -/
def Requests.any (r : Requests) : Bool := r.nmi0 || r.nmi1 || r.nmi2 || r.int.isSome

/-- HALT mode goes on: halted and no request (47_special.md R392). -/
def State.staysHalted (s : State) : Bool := s.halted && !s.requests.any

/-- HALT mode left (47_special.md R392). -/
def State.wake (s : State) : State := { s with halted := false }

/-- Whether PSW lets the maskable request in (60_exceptions.md R452). -/
def State.maskableEnabled (s : State) : Bool := !s.flag .np && !s.flag .id

/-- The request that PSW lets in, by priority: NMI2 whatever NP is, NMI1, NMI0, maskable (60_exceptions.md R448, R452,
R456, R458; log 11, log 12). -/
def State.acceptable (s : State) : Option Event :=
  if s.requests.nmi2 then some (.nmi .nmi2)
  else if s.requests.nmi1 && !s.flag .np then some (.nmi .nmi1)
  else if s.requests.nmi0 && !s.flag .np then some (.nmi .nmi0)
  else
    match s.requests.int with
    | some code => if s.maskableEnabled then some (.maskable code) else none
    | none => none

/-- The request accepted at this boundary: none where the boundary is not an acceptance point (47_special.md R389,
70_reset_and_hazards.md R502, log 10). -/
def State.accepted (s : State) : Option Event := if s.acceptPoint then s.acceptable else none

/-- The acknowledgement of an accepted request: its line is cleared (60_exceptions.md R449, log 9). -/
def State.acknowledge (s : State) (e : Event) : State :=
  match e with
  | .nmi .nmi0 => { s with requests := { s.requests with nmi0 := false } }
  | .nmi .nmi1 => { s with requests := { s.requests with nmi1 := false } }
  | .nmi .nmi2 => { s with requests := { s.requests with nmi2 := false } }
  | .maskable _ => { s with requests := { s.requests with int := none } }
  | .softwareException _ | .exceptionTrap | .debugTrap => s

/-- Accept a request: its entry sequence with the current pc as restored PC, the acknowledgement, and one event per
acceptance point (60_exceptions.md R445, R448, R449). -/
def State.accept (s : State) (e : Event) : State := ((s.raise e s.pc).acknowledge e).withoutSampling

/-- The instruction at pc, or its class of undefined encodings (20_memory.md R102, 30_encoding.md R173). -/
def State.fetch (s : State) : Except UndefinedClass Instr :=
  decodeHalves (s.fetchHalf 0) (s.fetchHalf 1) (s.fetchHalf 2) (s.fetchHalf 3)

/-- The state in which an instruction executes: the boundary after it is an acceptance point unless the instruction says
otherwise (47_special.md R389), and its host bytes are fresh, after those of its fetch (log 8). -/
def State.begin (s : State) : State := { s with acceptPoint := true, tick := s.tick + 2 }

/-- Store a list of bytes at the fetch addresses from pc + k on. -/
def State.placeBytes (s : State) : Nat → List Byte → State
  | _, [] => s
  | k, b :: rest =>
    State.placeBytes { s with mem := s.mem.write (reducePc (s.pc + BitVec.ofNat 32 (k / 2 * 2)) + BitVec.ofNat 32 (k % 2)).toNat b }
      (k + 1) rest

/-- `s` with a table word where the next step fetches, and nothing at the coming boundary that would come before its
execution (log 28). -/
def State.placeTableWord (s : State) (nbits w : Nat) : State :=
  State.placeBytes { s with halted := false, acceptPoint := false, host := [] } 0 (tableBytes nbits w)

end Sys2Proof.Machine
end

