-- ==== Sys2Proof/Machine/Operands.lean ====
section
/-! DEFINITION. The operand forms: immediates, operand addresses, branch targets, register lists. -/

namespace Sys2Proof.Machine

/-- sext_N of an N-bit field (00_scope.md R17). -/
def sext {n : Nat} (v : BitVec n) : Word := v.signExtend 32

/-- zext_N of an N-bit field (00_scope.md R17). -/
def zext {n : Nat} (v : BitVec n) : Word := v.setWidth 32

/-- The low byte of a word. -/
def lowByte (v : Word) : Byte := v.extractLsb' 0 8

/-- The low half-word of a word. -/
def lowHalf (v : Word) : Half := v.extractLsb' 0 16

/-- The address of a long form: GR[reg1] + sext_16(disp16) modulo 2^32 (40_load_store.md R200). -/
def State.longAddress (s : State) (disp16 : Half) (reg1 : RegNum) : Word := s.reg reg1 + sext disp16

/-- The address of a short form: ep + zext_N(dispN) modulo 2^32 (40_load_store.md R201). -/
def State.shortAddress (s : State) {n : Nat} (disp : BitVec n) : Word := s.reg epNum + zext disp

/-- A PC-relative target, before its reduction (45_branch.md R343). -/
def State.relative (s : State) {n : Nat} (disp : BitVec n) : Word := s.pc + sext disp

/-- The count of a shift by register, GR[reg1][4:0] (44_logical.md R319). -/
def State.shiftCount (s : State) (reg1 : RegNum) : Nat := ((s.reg reg1).extractLsb' 0 5).toNat

/-- The bit number in a register, GR[reg2][2:0] (46_bit_manipulation.md R361). -/
def State.bitNumber (s : State) (reg2 : RegNum) : Nat := ((s.reg reg2).extractLsb' 0 3).toNat

/-- zext_5(imm5) << 2, the frame size of PREPARE and DISPOSE (47_special.md R401). -/
def frameSize (imm5 : BitVec 5) : Word := zext imm5 <<< 2

/-- The registers of a list in ascending order (47_special.md R400). -/
def listedRegs (list12 : RegList) : List RegNum :=
  ([20#5, 21#5, 22#5, 23#5, 24#5, 25#5, 26#5, 27#5, 28#5, 29#5, 30#5, 31#5] : List RegNum).filter fun r =>
    list12.getLsbD (r.toNat - 20)

end Sys2Proof.Machine
end

