-- ==== Sys2Proof/Machine/Flags.lean ====
section
/-! DEFINITION. Results with their flags (00_scope.md R21, 43_saturated.md R291, 44_logical.md R301, R316 to R319,
42_arithmetic.md R260). -/

namespace Sys2Proof.Machine

/-- A result and the flags CY, OV, S, Z that go with it. -/
structure Flagged where
  result : Word
  cy : Bool
  ov : Bool
  s : Bool
  z : Bool
  deriving DecidableEq, Repr

/-- An integer is outside the range of a signed word. -/
def outOfRange (x : Int) : Bool := decide (x < -2147483648) || decide (2147483647 < x)

/-- add(a, b) (00_scope.md R21). -/
def addFlags (a b : Word) : Flagged :=
  let r := a + b
  { result := r
    cy := decide (2 ^ 32 ≤ a.toNat + b.toNat)
    ov := outOfRange (a.toInt + b.toInt)
    s := r.msb
    z := decide (r = 0#32) }

/-- sub(a, b), computing a - b (00_scope.md R21). -/
def subFlags (a b : Word) : Flagged :=
  let r := a - b
  { result := r
    cy := decide (a.toNat < b.toNat)
    ov := outOfRange (a.toInt - b.toInt)
    s := r.msb
    z := decide (r = 0#32) }

/-- The saturated result of an exact sum or difference x whose wrapped word is r (43_saturated.md R291). -/
def saturate (x : Int) (r : Word) : Word :=
  if 2147483647 < x then 0x7FFFFFFF#32 else if x < -2147483648 then 0x80000000#32 else r

/-- A saturated operation: CY and OV of the plain operation, S and Z of the saturated result (43_saturated.md R291). -/
def saturated (plain : Flagged) (x : Int) : Flagged :=
  let res := saturate x plain.result
  { plain with result := res, s := res.msb, z := decide (res = 0#32) }

/-- sat(a, b, add). -/
def satAdd (a b : Word) : Flagged := saturated (addFlags a b) (a.toInt + b.toInt)

/-- sat(a, b, sub). -/
def satSub (a b : Word) : Flagged := saturated (subFlags a b) (a.toInt - b.toInt)

/-- A shift's flags: CY the last bit shifted out, OV 0 (44_logical.md R319). -/
def shiftFlags (res : Word) (lastOut : Bool) : Flagged :=
  { result := res, cy := lastOut, ov := false, s := res.msb, z := decide (res = 0#32) }

/-- v << n; the last bit out is bit 32 - n (44_logical.md R312). -/
def shiftLeft (v : Word) (n : Nat) : Flagged :=
  shiftFlags (v <<< n) (decide (n ≠ 0) && v.getLsbD (32 - n))

/-- v >> n; the last bit out is bit n - 1 (44_logical.md R314). -/
def shiftRight (v : Word) (n : Nat) : Flagged :=
  shiftFlags (v >>> n) (decide (n ≠ 0) && v.getLsbD (n - 1))

/-- v >>a n; the last bit out is bit n - 1 (44_logical.md R310). -/
def shiftArithmeticRight (v : Word) (n : Nat) : Flagged :=
  shiftFlags (v.sshiftRight n) (decide (n ≠ 0) && v.getLsbD (n - 1))

/-- Byte i of a word. -/
def byteOf (v : Word) (i : Nat) : Byte := v.extractLsb' (8 * i) 8

/-- Half-word i of a word. -/
def halfOf (v : Word) (i : Nat) : Half := v.extractLsb' (16 * i) 16

/-- BSH: the bytes of each half-word exchanged; CY and Z look at the low half-word (44_logical.md R316). -/
def byteSwapHalf (v : Word) : Flagged :=
  let res : Word := byteOf v 2 ++ byteOf v 3 ++ byteOf v 0 ++ byteOf v 1
  { result := res
    cy := decide (byteOf res 0 = 0#8) || decide (byteOf res 1 = 0#8)
    ov := false
    s := res.msb
    z := decide (halfOf res 0 = 0#16) }

/-- BSW: the four bytes reversed (44_logical.md R317). -/
def byteSwapWord (v : Word) : Flagged :=
  let res : Word := byteOf v 0 ++ byteOf v 1 ++ byteOf v 2 ++ byteOf v 3
  { result := res
    cy := decide (byteOf res 0 = 0#8) || decide (byteOf res 1 = 0#8) ||
      decide (byteOf res 2 = 0#8) || decide (byteOf res 3 = 0#8)
    ov := false
    s := res.msb
    z := decide (res = 0#32) }

/-- HSW: the two half-words exchanged (44_logical.md R318). -/
def halfSwapWord (v : Word) : Flagged :=
  let res : Word := halfOf v 0 ++ halfOf v 1
  { result := res
    cy := decide (halfOf res 0 = 0#16) || decide (halfOf res 1 = 0#16)
    ov := false
    s := res.msb
    z := decide (res = 0#32) }

/-- The result of a division: the quotient, the remainder, OV, S and Z (42_arithmetic.md R260). -/
structure Division where
  quotient : Word
  remainder : Word
  ov : Bool
  s : Bool
  z : Bool
  deriving DecidableEq, Repr

/-- Division by zero: OV = 1, the rest are free values (42_arithmetic.md R260 (d), log 16). -/
def divideByZero (form : DivForm) (dividend divisorReg : Word) : Division :=
  { quotient := Config.divByZeroQuotient form dividend divisorReg
    remainder := Config.divByZeroRemainder form dividend divisorReg
    ov := true
    s := Config.divByZeroS form dividend divisorReg
    z := Config.divByZeroZ form dividend divisorReg }

/-- Signed division, rounded toward zero, the remainder with the sign of the dividend (R260 (a), log 15). S and Z are of
the quotient. The one overflow is -2^31 / -1 (R260 (c)). `divisorReg` is the whole register, for the free values. -/
def divideSigned (form : DivForm) (dividend divisorReg : Word) (b : Int) : Division :=
  let a := dividend.toInt
  if b = 0 then divideByZero form dividend divisorReg
  else if a = -2147483648 ∧ b = -1 then
    { quotient := 0x80000000#32, remainder := 0#32, ov := true, s := true, z := false }
  else
    let q := BitVec.ofInt 32 (a.tdiv b)
    { quotient := q, remainder := BitVec.ofInt 32 (a - a.tdiv b * b), ov := false, s := q.msb, z := decide (q = 0#32) }

/-- Unsigned division (42_arithmetic.md R264, R265). -/
def divideUnsigned (form : DivForm) (dividend divisorReg : Word) (b : Nat) : Division :=
  let a := dividend.toNat
  if b = 0 then divideByZero form dividend divisorReg
  else
    let q := BitVec.ofNat 32 (a / b)
    { quotient := q, remainder := BitVec.ofNat 32 (a - a / b * b), ov := false, s := q.msb, z := decide (q = 0#32) }

/-! ### Writing flags -/

/-- CY, OV, S, Z. -/
def State.setFlags (s : State) (f : Flagged) : State :=
  (((s.setFlag .cy f.cy).setFlag .ov f.ov).setFlag .s f.s).setFlag .z f.z

/-- OV, S, Z; CY unchanged (42_arithmetic.md R260 (b)). -/
def State.setDivisionFlags (s : State) (d : Division) : State :=
  ((s.setFlag .ov d.ov).setFlag .s d.s).setFlag .z d.z

/-- logic_flags(res): OV 0, S, Z; CY unchanged (44_logical.md R301). -/
def State.setLogicFlags (s : State) (res : Word) : State :=
  ((s.setFlag .ov false).setFlag .s res.msb).setFlag .z (decide (res = 0#32))

/-- The flags of a saturated operation: as `setFlags`, and SAT set if OV = 1, never cleared (43_saturated.md R291, R297). -/
def State.setSaturatedFlags (s : State) (f : Flagged) : State :=
  let t := s.setFlags f
  if f.ov then t.setFlag .sat true else t

end Sys2Proof.Machine
end

