-- ==== Sys2Proof/Machine/Arithmetic.lean ====
section
/-! DEFINITION. Arithmetic instructions (42_arithmetic.md). -/

namespace Sys2Proof.Machine

/-- The end of an arithmetic operation: GR[dest] <- the result, CY, OV, S, Z, and the next instruction. -/
def State.arithmetic (s : State) (dest : RegNum) (f : Flagged) (len : Nat) : Result :=
  .next (((s.setReg dest f.result).setFlags f).advance len)

/-- The end of a comparison: CY, OV, S, Z, and the next instruction (42_arithmetic.md R249). -/
def State.compare (s : State) (f : Flagged) (len : Nat) : Result := .next ((s.setFlags f).advance len)

/-- The end of a data transfer: GR[dest] <- v, no flag, and the next instruction. -/
def State.move (s : State) (dest : RegNum) (v : Word) (len : Nat) : Result := .next ((s.setReg dest v).advance len)

/-- The end of a division with a remainder: reg2, then reg3, OV, S, Z (42_arithmetic.md R260 (b), (e)). -/
def State.divided (s : State) (reg2 reg3 : RegNum) (d : Division) (len : Nat) : Result :=
  .next ((((s.setReg reg2 d.quotient).setReg reg3 d.remainder).setDivisionFlags d).advance len)

/-- ADD reg1, reg2 (42_arithmetic.md R246). -/
def execAddReg (reg1 reg2 : RegNum) (s : State) : Result :=
  s.arithmetic reg2 (addFlags (s.reg reg2) (s.reg reg1)) 2

/-- ADD imm5, reg2 (42_arithmetic.md R247). -/
def execAddImm5 (imm5 : BitVec 5) (reg2 : RegNum) (s : State) : Result :=
  s.arithmetic reg2 (addFlags (s.reg reg2) (sext imm5)) 2

/-- ADDI imm16, reg1, reg2 (42_arithmetic.md R248). -/
def execAddi (imm16 : Half) (reg1 reg2 : RegNum) (s : State) : Result :=
  s.arithmetic reg2 (addFlags (s.reg reg1) (sext imm16)) 4

/-- CMP reg1, reg2 (42_arithmetic.md R249). -/
def execCmpReg (reg1 reg2 : RegNum) (s : State) : Result :=
  s.compare (subFlags (s.reg reg2) (s.reg reg1)) 2

/-- CMP imm5, reg2 (42_arithmetic.md R250). -/
def execCmpImm5 (imm5 : BitVec 5) (reg2 : RegNum) (s : State) : Result :=
  s.compare (subFlags (s.reg reg2) (sext imm5)) 2

/-- SUB reg1, reg2 (42_arithmetic.md R256). -/
def execSub (reg1 reg2 : RegNum) (s : State) : Result :=
  s.arithmetic reg2 (subFlags (s.reg reg2) (s.reg reg1)) 2

/-- SUBR reg1, reg2 (42_arithmetic.md R257). -/
def execSubr (reg1 reg2 : RegNum) (s : State) : Result :=
  s.arithmetic reg2 (subFlags (s.reg reg1) (s.reg reg2)) 2

/-- MOV reg1, reg2 (42_arithmetic.md R251). -/
def execMovReg (reg1 reg2 : RegNum) (s : State) : Result :=
  s.move reg2 (s.reg reg1) 2

/-- MOV imm5, reg2 (42_arithmetic.md R252). -/
def execMovImm5 (imm5 : BitVec 5) (reg2 : RegNum) (s : State) : Result :=
  s.move reg2 (sext imm5) 2

/-- MOV imm32, reg1 (42_arithmetic.md R253). -/
def execMovImm32 (imm32 : Word) (reg1 : RegNum) (s : State) : Result :=
  s.move reg1 imm32 6

/-- MOVEA imm16, reg1, reg2 (42_arithmetic.md R254). -/
def execMovea (imm16 : Half) (reg1 reg2 : RegNum) (s : State) : Result :=
  s.move reg2 (s.reg reg1 + sext imm16) 4

/-- MOVHI imm16, reg1, reg2 (42_arithmetic.md R255). -/
def execMovhi (imm16 : Half) (reg1 reg2 : RegNum) (s : State) : Result :=
  s.move reg2 (s.reg reg1 + (imm16 ++ 0#16)) 4

/-- SASF cccc, reg2 (42_arithmetic.md R258). -/
def execSasf (cond : Cond) (reg2 : RegNum) (s : State) : Result :=
  s.move reg2 (s.reg reg2 <<< 1 ||| (if s.cond cond then 1#32 else 0#32)) 4

/-- SETF cccc, reg2 (42_arithmetic.md R259). -/
def execSetf (cond : Cond) (reg2 : RegNum) (s : State) : Result :=
  s.move reg2 (if s.cond cond then 1#32 else 0#32) 4

/-- CMOV cccc, reg1, reg2, reg3 (42_arithmetic.md R266). -/
def execCmovReg (cond : Cond) (reg1 reg2 reg3 : RegNum) (s : State) : Result :=
  s.move reg3 (if s.cond cond then s.reg reg1 else s.reg reg2) 4

/-- CMOV cccc, imm5, reg2, reg3 (42_arithmetic.md R267). -/
def execCmovImm5 (cond : Cond) (imm5 : BitVec 5) (reg2 reg3 : RegNum) (s : State) : Result :=
  s.move reg3 (if s.cond cond then sext imm5 else s.reg reg2) 4

/-- DIV reg1, reg2, reg3 (42_arithmetic.md R261). -/
def execDiv (reg1 reg2 reg3 : RegNum) (s : State) : Result :=
  s.divided reg2 reg3 (divideSigned .div (s.reg reg2) (s.reg reg1) (s.reg reg1).toInt) 4

/-- DIVH reg1, reg2 (42_arithmetic.md R262). The remainder is not stored. -/
def execDivhReg (reg1 reg2 : RegNum) (s : State) : Result :=
  let d := divideSigned .divhReg (s.reg reg2) (s.reg reg1) (lowHalf (s.reg reg1)).toInt
  .next (((s.setReg reg2 d.quotient).setDivisionFlags d).advance 2)

/-- DIVH reg1, reg2, reg3 (42_arithmetic.md R263). -/
def execDivhReg3 (reg1 reg2 reg3 : RegNum) (s : State) : Result :=
  s.divided reg2 reg3 (divideSigned .divhReg3 (s.reg reg2) (s.reg reg1) (lowHalf (s.reg reg1)).toInt) 4

/-- DIVHU reg1, reg2, reg3 (42_arithmetic.md R264). -/
def execDivhu (reg1 reg2 reg3 : RegNum) (s : State) : Result :=
  s.divided reg2 reg3 (divideUnsigned .divhu (s.reg reg2) (s.reg reg1) (lowHalf (s.reg reg1)).toNat) 4

/-- DIVU reg1, reg2, reg3 (42_arithmetic.md R265). -/
def execDivu (reg1 reg2 reg3 : RegNum) (s : State) : Result :=
  s.divided reg2 reg3 (divideUnsigned .divu (s.reg reg2) (s.reg reg1) (s.reg reg1).toNat) 4

end Sys2Proof.Machine
end

