-- ==== Sys2Proof/Machine/BitManipulation.lean ====
section
/-! DEFINITION. Bit manipulation instructions (46_bit_manipulation.md). -/

namespace Sys2Proof.Machine

/-- The Z flag of a bit instruction: 1 if bit n of the byte read was 0 (46_bit_manipulation.md R361 (c)). -/
def State.setBitZ (s : State) (b : Byte) (n : Nat) : State := s.setFlag .z (!b.getLsbD n)

/-- The byte with only bit n set. -/
def bitMask (n : Nat) : Byte := 1#8 <<< n

/-- The byte with the bits of a mask set. -/
def setBits (b mask : Byte) : Byte := b ||| mask

/-- The byte with the bits of a mask cleared. -/
def clearBits (b mask : Byte) : Byte := b &&& ~~~mask

/-- The byte with the bits of a mask inverted. -/
def invertBits (b mask : Byte) : Byte := b ^^^ mask

/-- One byte read, Z from its bit n, one byte write of the changed byte (46_bit_manipulation.md R360; log 24). -/
def State.modifyBit (s : State) (a : Word) (n : Nat) (change : Byte → Byte → Byte) : Result :=
  .next (((s.setBitZ (s.load1 a) n).store1 a (change (s.load1 a) (bitMask n))).advance 4)

/-- One byte read, Z from its bit n, no write (46_bit_manipulation.md R368). -/
def State.testBit (s : State) (a : Word) (n : Nat) : Result := .next ((s.setBitZ (s.load1 a) n).advance 4)

/-- SET1 bit#3, disp16[reg1] (46_bit_manipulation.md R362). -/
def execSet1Disp (bit3 : BitVec 3) (disp16 : Half) (reg1 : RegNum) (s : State) : Result :=
  s.modifyBit (s.longAddress disp16 reg1) bit3.toNat setBits

/-- SET1 reg2, [reg1] (46_bit_manipulation.md R363). -/
def execSet1Reg (reg2 reg1 : RegNum) (s : State) : Result :=
  s.modifyBit (s.reg reg1) (s.bitNumber reg2) setBits

/-- CLR1 bit#3, disp16[reg1] (46_bit_manipulation.md R364). -/
def execClr1Disp (bit3 : BitVec 3) (disp16 : Half) (reg1 : RegNum) (s : State) : Result :=
  s.modifyBit (s.longAddress disp16 reg1) bit3.toNat clearBits

/-- CLR1 reg2, [reg1] (46_bit_manipulation.md R365). -/
def execClr1Reg (reg2 reg1 : RegNum) (s : State) : Result :=
  s.modifyBit (s.reg reg1) (s.bitNumber reg2) clearBits

/-- NOT1 bit#3, disp16[reg1] (46_bit_manipulation.md R366). -/
def execNot1Disp (bit3 : BitVec 3) (disp16 : Half) (reg1 : RegNum) (s : State) : Result :=
  s.modifyBit (s.longAddress disp16 reg1) bit3.toNat invertBits

/-- NOT1 reg2, [reg1] (46_bit_manipulation.md R367). -/
def execNot1Reg (reg2 reg1 : RegNum) (s : State) : Result :=
  s.modifyBit (s.reg reg1) (s.bitNumber reg2) invertBits

/-- TST1 bit#3, disp16[reg1] (46_bit_manipulation.md R368). -/
def execTst1Disp (bit3 : BitVec 3) (disp16 : Half) (reg1 : RegNum) (s : State) : Result :=
  s.testBit (s.longAddress disp16 reg1) bit3.toNat

/-- TST1 reg2, [reg1] (46_bit_manipulation.md R369). -/
def execTst1Reg (reg2 reg1 : RegNum) (s : State) : Result :=
  s.testBit (s.reg reg1) (s.bitNumber reg2)

end Sys2Proof.Machine
end

