-- ==== Sys2Proof/Machine/Branch.lean ====
section
/-! DEFINITION. Branch instructions (45_branch.md). -/

namespace Sys2Proof.Machine

/-- Bcond disp9 (45_branch.md R341). -/
def execBcond (cond : Cond) (disp9 : BitVec 9) (s : State) : Result :=
  .next (if s.cond cond then s.setPc (s.relative disp9) else s.advance 2)

/-- JARL disp22, reg2 (45_branch.md R344). The link value is a program address (log 22). -/
def execJarl (disp22 : BitVec 22) (reg2 : RegNum) (s : State) : Result :=
  .next ((s.setReg reg2 (s.pcPlus 4)).setPc (s.relative disp22))

/-- JR disp22 (45_branch.md R345). -/
def execJr (disp22 : BitVec 22) (s : State) : Result :=
  .next (s.setPc (s.relative disp22))

/-- JMP [reg1] (45_branch.md R346). -/
def execJmp (reg1 : RegNum) (s : State) : Result :=
  .next (s.setPc (s.reg reg1))

end Sys2Proof.Machine
end

