-- ==== Sys2Proof/Machine/Debug.lean ====
section
/-! DEFINITION. Debug function instructions (48_debug.md) and the illegal instruction code (30_encoding.md R170). -/

namespace Sys2Proof.Machine

/-- DBTRAP (48_debug.md R431). -/
def execDbtrap (s : State) : Result :=
  .next (s.raise .debugTrap (s.pcPlus 2))

/-- DBRET (48_debug.md R432). -/
def execDbret (s : State) : Result :=
  .next ((s.returnFrom .dbpc .dbpsw).setSysReg .dir 0#32)

/-- The illegal instruction code with bits 26..23 = 0111: no field is used (60_exceptions.md R463). -/
def execIllegal0111 (_bits15 _bits4 _bits31 : BitVec 5) (_bits22 : BitVec 6) (s : State) : Result :=
  .next (s.raise .exceptionTrap (s.pcPlus 4))

/-- The illegal instruction code with bits 26..23 = 1xxx: no field is used (60_exceptions.md R463). -/
def execIllegal1xxx (_bits15 _bits4 _bits31 : BitVec 5) (_bits25 : BitVec 3) (_bits22 : BitVec 6)
    (s : State) : Result :=
  .next (s.raise .exceptionTrap (s.pcPlus 4))

end Sys2Proof.Machine
end

