-- ==== Sys2Proof/Machine/LoadStore.lean ====
section
/-! DEFINITION. Load and store instructions (40_load_store.md). -/

namespace Sys2Proof.Machine

/-- The end of a load: GR[reg2] <- v, and the next instruction. -/
def State.loaded (s : State) (reg2 : RegNum) (v : Word) (len : Nat) : Result := .next ((s.setReg reg2 v).advance len)

/-- LD.B disp16[reg1], reg2 (40_load_store.md R203). -/
def execLdB (disp16 : Half) (reg1 reg2 : RegNum) (s : State) : Result :=
  s.loaded reg2 (sext (s.load1 (s.longAddress disp16 reg1))) 4

/-- LD.BU disp16[reg1], reg2 (40_load_store.md R204). -/
def execLdBu (disp16 : Half) (reg1 reg2 : RegNum) (s : State) : Result :=
  s.loaded reg2 (zext (s.load1 (s.longAddress disp16 reg1))) 4

/-- LD.H disp16[reg1], reg2 (40_load_store.md R205). -/
def execLdH (disp16 : Half) (reg1 reg2 : RegNum) (s : State) : Result :=
  s.loaded reg2 (sext (s.load2 (s.longAddress disp16 reg1))) 4

/-- LD.HU disp16[reg1], reg2 (40_load_store.md R206). -/
def execLdHu (disp16 : Half) (reg1 reg2 : RegNum) (s : State) : Result :=
  s.loaded reg2 (zext (s.load2 (s.longAddress disp16 reg1))) 4

/-- LD.W disp16[reg1], reg2 (40_load_store.md R207). -/
def execLdW (disp16 : Half) (reg1 reg2 : RegNum) (s : State) : Result :=
  s.loaded reg2 (s.load4 (s.longAddress disp16 reg1)) 4

/-- SLD.B disp7[ep], reg2 (40_load_store.md R210). -/
def execSldB (disp7 : BitVec 7) (reg2 : RegNum) (s : State) : Result :=
  s.loaded reg2 (sext (s.load1 (s.shortAddress disp7))) 2

/-- SLD.BU disp4[ep], reg2 (40_load_store.md R211). -/
def execSldBu (disp4 : BitVec 4) (reg2 : RegNum) (s : State) : Result :=
  s.loaded reg2 (zext (s.load1 (s.shortAddress disp4))) 2

/-- SLD.H disp8[ep], reg2 (40_load_store.md R212). -/
def execSldH (disp8 : BitVec 8) (reg2 : RegNum) (s : State) : Result :=
  s.loaded reg2 (sext (s.load2 (s.shortAddress disp8))) 2

/-- SLD.HU disp5[ep], reg2 (40_load_store.md R213). -/
def execSldHu (disp5 : BitVec 5) (reg2 : RegNum) (s : State) : Result :=
  s.loaded reg2 (zext (s.load2 (s.shortAddress disp5))) 2

/-- SLD.W disp8[ep], reg2 (40_load_store.md R214). -/
def execSldW (disp8 : BitVec 8) (reg2 : RegNum) (s : State) : Result :=
  s.loaded reg2 (s.load4 (s.shortAddress disp8)) 2

/-- ST.B reg2, disp16[reg1] (40_load_store.md R215). -/
def execStB (reg2 : RegNum) (disp16 : Half) (reg1 : RegNum) (s : State) : Result :=
  .next ((s.store1 (s.longAddress disp16 reg1) (lowByte (s.reg reg2))).advance 4)

/-- ST.H reg2, disp16[reg1] (40_load_store.md R216). -/
def execStH (reg2 : RegNum) (disp16 : Half) (reg1 : RegNum) (s : State) : Result :=
  .next ((s.store2 (s.longAddress disp16 reg1) (lowHalf (s.reg reg2))).advance 4)

/-- ST.W reg2, disp16[reg1] (40_load_store.md R217). -/
def execStW (reg2 : RegNum) (disp16 : Half) (reg1 : RegNum) (s : State) : Result :=
  .next ((s.store4 (s.longAddress disp16 reg1) (s.reg reg2)).advance 4)

/-- SST.B reg2, disp7[ep] (40_load_store.md R218). -/
def execSstB (reg2 : RegNum) (disp7 : BitVec 7) (s : State) : Result :=
  .next ((s.store1 (s.shortAddress disp7) (lowByte (s.reg reg2))).advance 2)

/-- SST.H reg2, disp8[ep] (40_load_store.md R219). -/
def execSstH (reg2 : RegNum) (disp8 : BitVec 8) (s : State) : Result :=
  .next ((s.store2 (s.shortAddress disp8) (lowHalf (s.reg reg2))).advance 2)

/-- SST.W reg2, disp8[ep] (40_load_store.md R220). -/
def execSstW (reg2 : RegNum) (disp8 : BitVec 8) (s : State) : Result :=
  .next ((s.store4 (s.shortAddress disp8) (s.reg reg2)).advance 2)

end Sys2Proof.Machine
end

