-- ==== Sys2Proof/Machine/Logical.lean ====
section
/-! DEFINITION. Logical, shift, swap and extension instructions (44_logical.md). -/

namespace Sys2Proof.Machine

/-- The end of a bitwise operation: GR[dest] <- res, logic_flags(res), and the next instruction (44_logical.md R301). -/
def State.bitwise (s : State) (dest : RegNum) (res : Word) (len : Nat) : Result :=
  .next (((s.setReg dest res).setLogicFlags res).advance len)

/-- The end of a shift or a swap: GR[dest] <- the result, CY, OV, S, Z, and the next instruction. -/
def State.shifted (s : State) (dest : RegNum) (f : Flagged) (len : Nat) : Result :=
  .next (((s.setReg dest f.result).setFlags f).advance len)

/-- The end of an extension: GR[reg1] <- v, no flag, and the next instruction (44_logical.md R324). -/
def State.extended (s : State) (reg1 : RegNum) (v : Word) : Result := .next ((s.setReg reg1 v).advance 2)

/-- AND reg1, reg2 (44_logical.md R302). -/
def execAndReg (reg1 reg2 : RegNum) (s : State) : Result :=
  s.bitwise reg2 (s.reg reg2 &&& s.reg reg1) 2

/-- OR reg1, reg2 (44_logical.md R305). -/
def execOrReg (reg1 reg2 : RegNum) (s : State) : Result :=
  s.bitwise reg2 (s.reg reg2 ||| s.reg reg1) 2

/-- XOR reg1, reg2 (44_logical.md R307). -/
def execXorReg (reg1 reg2 : RegNum) (s : State) : Result :=
  s.bitwise reg2 (s.reg reg2 ^^^ s.reg reg1) 2

/-- NOT reg1, reg2 (44_logical.md R304). -/
def execNotReg (reg1 reg2 : RegNum) (s : State) : Result :=
  s.bitwise reg2 (~~~(s.reg reg1)) 2

/-- TST reg1, reg2 (44_logical.md R309). -/
def execTst (reg1 reg2 : RegNum) (s : State) : Result :=
  .next ((s.setLogicFlags (s.reg reg2 &&& s.reg reg1)).advance 2)

/-- ANDI imm16, reg1, reg2 (44_logical.md R303). -/
def execAndi (imm16 : Half) (reg1 reg2 : RegNum) (s : State) : Result :=
  s.bitwise reg2 (s.reg reg1 &&& zext imm16) 4

/-- ORI imm16, reg1, reg2 (44_logical.md R306). -/
def execOri (imm16 : Half) (reg1 reg2 : RegNum) (s : State) : Result :=
  s.bitwise reg2 (s.reg reg1 ||| zext imm16) 4

/-- XORI imm16, reg1, reg2 (44_logical.md R308). -/
def execXori (imm16 : Half) (reg1 reg2 : RegNum) (s : State) : Result :=
  s.bitwise reg2 (s.reg reg1 ^^^ zext imm16) 4

/-- SAR reg1, reg2 (44_logical.md R310). -/
def execSarReg (reg1 reg2 : RegNum) (s : State) : Result :=
  s.shifted reg2 (shiftArithmeticRight (s.reg reg2) (s.shiftCount reg1)) 4

/-- SAR imm5, reg2 (44_logical.md R311). -/
def execSarImm5 (imm5 : BitVec 5) (reg2 : RegNum) (s : State) : Result :=
  s.shifted reg2 (shiftArithmeticRight (s.reg reg2) imm5.toNat) 2

/-- SHL reg1, reg2 (44_logical.md R312). -/
def execShlReg (reg1 reg2 : RegNum) (s : State) : Result :=
  s.shifted reg2 (shiftLeft (s.reg reg2) (s.shiftCount reg1)) 4

/-- SHL imm5, reg2 (44_logical.md R313). -/
def execShlImm5 (imm5 : BitVec 5) (reg2 : RegNum) (s : State) : Result :=
  s.shifted reg2 (shiftLeft (s.reg reg2) imm5.toNat) 2

/-- SHR reg1, reg2 (44_logical.md R314). -/
def execShrReg (reg1 reg2 : RegNum) (s : State) : Result :=
  s.shifted reg2 (shiftRight (s.reg reg2) (s.shiftCount reg1)) 4

/-- SHR imm5, reg2 (44_logical.md R315). -/
def execShrImm5 (imm5 : BitVec 5) (reg2 : RegNum) (s : State) : Result :=
  s.shifted reg2 (shiftRight (s.reg reg2) imm5.toNat) 2

/-- BSH reg2, reg3 (44_logical.md R316). -/
def execBsh (reg2 reg3 : RegNum) (s : State) : Result :=
  s.shifted reg3 (byteSwapHalf (s.reg reg2)) 4

/-- BSW reg2, reg3 (44_logical.md R317). -/
def execBsw (reg2 reg3 : RegNum) (s : State) : Result :=
  s.shifted reg3 (byteSwapWord (s.reg reg2)) 4

/-- HSW reg2, reg3 (44_logical.md R318). -/
def execHsw (reg2 reg3 : RegNum) (s : State) : Result :=
  s.shifted reg3 (halfSwapWord (s.reg reg2)) 4

/-- SXB reg1 (44_logical.md R320). -/
def execSxb (reg1 : RegNum) (s : State) : Result :=
  s.extended reg1 (sext (lowByte (s.reg reg1)))

/-- SXH reg1 (44_logical.md R321). -/
def execSxh (reg1 : RegNum) (s : State) : Result :=
  s.extended reg1 (sext (lowHalf (s.reg reg1)))

/-- ZXB reg1 (44_logical.md R322). -/
def execZxb (reg1 : RegNum) (s : State) : Result :=
  s.extended reg1 (zext (lowByte (s.reg reg1)))

/-- ZXH reg1 (44_logical.md R323). -/
def execZxh (reg1 : RegNum) (s : State) : Result :=
  s.extended reg1 (zext (lowHalf (s.reg reg1)))

end Sys2Proof.Machine
end

