-- ==== Sys2Proof/Machine/Multiply.lean ====
section
/-! DEFINITION. Multiply instructions (41_multiply.md). -/

namespace Sys2Proof.Machine

/-- The low word of a 64-bit product to reg2, then its high word to reg3 (41_multiply.md R232, R234). -/
def State.setProduct (s : State) (reg2 reg3 : RegNum) (p : BitVec 64) : State :=
  (s.setReg reg2 (p.extractLsb' 0 32)).setReg reg3 (p.extractLsb' 32 32)

/-- The register combination whose operation is not guaranteed (41_multiply.md R239, log 19). -/
def multiplyNotGuaranteed (reg1 reg2 reg3 : RegNum) : Bool := decide (reg1 = reg3 ∧ reg1 ≠ reg2 ∧ reg1 ≠ 0#5)

/-- MUL reg1, reg2, reg3 (41_multiply.md R232, R239). -/
def execMulReg (reg1 reg2 reg3 : RegNum) (s : State) : Result :=
  if multiplyNotGuaranteed reg1 reg2 reg3 then .refused (.multiplyRegisterCombination reg1 reg2 reg3)
  else .next ((s.setProduct reg2 reg3 (BitVec.ofInt 64 ((s.reg reg2).toInt * (s.reg reg1).toInt))).advance 4)

/-- MULU reg1, reg2, reg3 (41_multiply.md R234, R239). -/
def execMuluReg (reg1 reg2 reg3 : RegNum) (s : State) : Result :=
  if multiplyNotGuaranteed reg1 reg2 reg3 then .refused (.multiplyRegisterCombination reg1 reg2 reg3)
  else .next ((s.setProduct reg2 reg3 (BitVec.ofNat 64 ((s.reg reg2).toNat * (s.reg reg1).toNat))).advance 4)

/-- MUL imm9, reg2, reg3 (41_multiply.md R233). -/
def execMulImm9 (imm9 : BitVec 9) (reg2 reg3 : RegNum) (s : State) : Result :=
  .next ((s.setProduct reg2 reg3 (BitVec.ofInt 64 ((s.reg reg2).toInt * (sext imm9).toInt))).advance 4)

/-- MULU imm9, reg2, reg3 (41_multiply.md R235). -/
def execMuluImm9 (imm9 : BitVec 9) (reg2 reg3 : RegNum) (s : State) : Result :=
  .next ((s.setProduct reg2 reg3 (BitVec.ofNat 64 ((s.reg reg2).toNat * (zext imm9).toNat))).advance 4)

/-- The signed product of two half-words, a word (41_multiply.md R236). -/
def halfProduct (a b : Half) : Word := BitVec.ofInt 32 (a.toInt * b.toInt)

/-- MULH reg1, reg2 (41_multiply.md R236). -/
def execMulhReg (reg1 reg2 : RegNum) (s : State) : Result :=
  .next ((s.setReg reg2 (halfProduct (lowHalf (s.reg reg2)) (lowHalf (s.reg reg1)))).advance 2)

/-- MULH imm5, reg2 (41_multiply.md R237). -/
def execMulhImm5 (imm5 : BitVec 5) (reg2 : RegNum) (s : State) : Result :=
  .next ((s.setReg reg2 (halfProduct (lowHalf (s.reg reg2)) (imm5.signExtend 16))).advance 2)

/-- MULHI imm16, reg1, reg2 (41_multiply.md R238). -/
def execMulhi (imm16 : Half) (reg1 reg2 : RegNum) (s : State) : Result :=
  .next ((s.setReg reg2 (halfProduct (lowHalf (s.reg reg1)) imm16)).advance 4)

end Sys2Proof.Machine
end

