-- ==== Sys2Proof/Machine/Saturated.lean ====
section
/-! DEFINITION. Saturated operation instructions (43_saturated.md). -/

namespace Sys2Proof.Machine

/-- The end of a saturated operation: GR[reg2] <- the result, the flags with SAT, and the next instruction. -/
def State.saturatedOp (s : State) (reg2 : RegNum) (f : Flagged) (len : Nat) : Result :=
  .next (((s.setReg reg2 f.result).setSaturatedFlags f).advance len)

/-- SATADD reg1, reg2 (43_saturated.md R292). -/
def execSataddReg (reg1 reg2 : RegNum) (s : State) : Result :=
  s.saturatedOp reg2 (satAdd (s.reg reg2) (s.reg reg1)) 2

/-- SATADD imm5, reg2 (43_saturated.md R293). -/
def execSataddImm5 (imm5 : BitVec 5) (reg2 : RegNum) (s : State) : Result :=
  s.saturatedOp reg2 (satAdd (s.reg reg2) (sext imm5)) 2

/-- SATSUB reg1, reg2 (43_saturated.md R294). -/
def execSatsub (reg1 reg2 : RegNum) (s : State) : Result :=
  s.saturatedOp reg2 (satSub (s.reg reg2) (s.reg reg1)) 2

/-- SATSUBI imm16, reg1, reg2 (43_saturated.md R295). -/
def execSatsubi (imm16 : Half) (reg1 reg2 : RegNum) (s : State) : Result :=
  s.saturatedOp reg2 (satSub (s.reg reg1) (sext imm16)) 4

/-- SATSUBR reg1, reg2 (43_saturated.md R296). -/
def execSatsubr (reg1 reg2 : RegNum) (s : State) : Result :=
  s.saturatedOp reg2 (satSub (s.reg reg1) (s.reg reg2)) 2

end Sys2Proof.Machine
end

