-- ==== Sys2Proof/Machine/Special.lean ====
section
/-! DEFINITION. Special instructions (47_special.md). -/

namespace Sys2Proof.Machine

/-- NOP (47_special.md R396). -/
def execNop (s : State) : Result :=
  .next (s.advance 2)

/-- CALLT imm6 (47_special.md R381). -/
def execCallt (imm6 : BitVec 6) (s : State) : Result :=
  let t := (s.setSysReg .ctpc (s.pcPlus 2)).setSysReg .ctpsw s.psw
  .next (t.setPc (s.ctbp + zext (s.load2 (s.ctbp + (zext imm6 <<< 1)))))

/-- CTRET (47_special.md R384). -/
def execCtret (s : State) : Result :=
  .next (s.returnFrom .ctpc .ctpsw)

/-- DI (47_special.md R386, R389). -/
def execDi (s : State) : Result :=
  .next (((s.setFlag .id true).advance 4).withoutSampling)

/-- EI (47_special.md R388, R389). -/
def execEi (s : State) : Result :=
  .next (((s.setFlag .id false).advance 4).withoutSampling)

/-- HALT: pc is advanced first (47_special.md R392). -/
def execHalt (s : State) : Result :=
  .next (s.advance 4).enterHalt

/-- LDSR reg2, regID (47_special.md R394). A write to PSW is not sampled (R389); the refusals are log 18. -/
def execLdsr (reg2 : RegNum) (regID : BitVec 5) (s : State) : Result :=
  match SysReg.ofNumber regID with
  | none => .refused (.reservedSystemRegister regID)
  | some r =>
    if r.ldsrAllowed then
      let t := (s.setSysReg r (s.reg reg2)).advance 4
      .next (if r = .psw then t.withoutSampling else t)
    else .refused (.writeProhibitedSystemRegister regID)

/-- STSR regID, reg2 (47_special.md R410). The refusal is log 18. -/
def execStsr (regID : BitVec 5) (reg2 : RegNum) (s : State) : Result :=
  match SysReg.ofNumber regID with
  | none => .refused (.reservedSystemRegister regID)
  | some r => .next ((s.setReg reg2 (s.sysReg r)).advance 4)

/-- PREPARE's loop from the stack address t: t <- t - 4, MemWrite(align4(t), 4, GR[r]) (47_special.md R404). -/
def State.pushRegs : State → Word → List RegNum → State
  | s, _, [] => s
  | s, t, r :: rest => State.pushRegs (s.store4 (align4 (t - 4#32)) (s.reg r)) (t - 4#32) rest

/-- DISPOSE's loop from the stack address t: GR[r] <- MemRead(align4(t), 4), t <- t + 4 (47_special.md R408). -/
def State.popRegs : State → Word → List RegNum → State
  | s, _, [] => s
  | s, t, r :: rest => State.popRegs (s.setReg r (s.load4 (align4 t))) (t + 4#32) rest

/-- The bytes that a register list takes on the stack. -/
def listBytes (list12 : RegList) : Word := BitVec.ofNat 32 (4 * (listedRegs list12).length)

/-- sp after PREPARE (47_special.md R404). -/
def State.preparedSp (s : State) (list12 : RegList) (imm5 : BitVec 5) : Word :=
  s.reg spNum - listBytes list12 - frameSize imm5

/-- The stores of PREPARE and the new sp (47_special.md R404). -/
def State.prepareFrame (s : State) (list12 : RegList) (imm5 : BitVec 5) : State :=
  (s.pushRegs (s.reg spNum) (listedRegs list12)).setReg spNum (s.preparedSp list12 imm5)

/-- The loads of DISPOSE, in descending order, and the new sp (47_special.md R408). -/
def State.disposeFrame (s : State) (imm5 : BitVec 5) (list12 : RegList) : State :=
  let t := s.reg spNum + frameSize imm5
  (s.popRegs t (listedRegs list12).reverse).setReg spNum (t + listBytes list12)

/-- PREPARE list12, imm5 (47_special.md R404). -/
def execPrepare (list12 : RegList) (imm5 : BitVec 5) (s : State) : Result :=
  .next ((s.prepareFrame list12 imm5).advance 4)

/-- PREPARE list12, imm5, sp: ep receives the new sp (47_special.md R405, ff = 00; log 34). -/
def execPrepareSp (list12 : RegList) (imm5 : BitVec 5) (s : State) : Result :=
  .next (((s.prepareFrame list12 imm5).setReg epNum (s.preparedSp list12 imm5)).advance 4)

/-- PREPARE list12, imm5, imm16, sign-extended (47_special.md R405, ff = 01). -/
def execPrepareImm16 (list12 : RegList) (imm5 : BitVec 5) (imm16 : Half) (s : State) : Result :=
  .next (((s.prepareFrame list12 imm5).setReg epNum (sext imm16)).advance 6)

/-- PREPARE list12, imm5, imm16, shifted left by 16 (47_special.md R405, ff = 10). -/
def execPrepareHi16 (list12 : RegList) (imm5 : BitVec 5) (imm16 : Half) (s : State) : Result :=
  .next (((s.prepareFrame list12 imm5).setReg epNum (zext imm16 <<< 16)).advance 6)

/-- PREPARE list12, imm5, imm32 (47_special.md R405, ff = 11). -/
def execPrepareImm32 (list12 : RegList) (imm5 : BitVec 5) (imm32 : Word) (s : State) : Result :=
  .next (((s.prepareFrame list12 imm5).setReg epNum imm32).advance 8)

/-- DISPOSE imm5, list12 (47_special.md R408). -/
def execDispose (imm5 : BitVec 5) (list12 : RegList) (s : State) : Result :=
  .next ((s.disposeFrame imm5 list12).advance 4)

/-- DISPOSE imm5, list12, [reg1]: reg1 is read after the loads (47_special.md R409; log 34). -/
def execDisposeJump (imm5 : BitVec 5) (list12 : RegList) (reg1 : RegNum) (s : State) : Result :=
  let t := s.disposeFrame imm5 list12
  .next (t.setPc (t.reg reg1))

/-- RETI (47_special.md R406). -/
def execReti (s : State) : Result :=
  .next (if !s.flag .ep && s.flag .np then s.returnFrom .fepc .fepsw else s.returnFrom .eipc .eipsw)

/-- SWITCH reg1 (47_special.md R412; log 33). -/
def execSwitch (reg1 : RegNum) (s : State) : Result :=
  let base := s.pc + 2#32
  .next (s.setPc (base + (sext (s.load2 (base + (s.reg reg1 <<< 1))) <<< 1)))

/-- TRAP vector (47_special.md R414). -/
def execTrap (vector : BitVec 5) (s : State) : Result :=
  .next (s.raise (.softwareException vector) (s.pcPlus 4))

end Sys2Proof.Machine
end

