-- ==== Sys2Proof/Machine/Dispatch.lean ====
section
/-! DEFINITION. The meaning of each instruction, one arm per constructor. -/

namespace Sys2Proof.Machine

def exec (i : Instr) (s : State) : Host.Outcome State Fault Refusal :=
  match i with
  | .nop => Sys2Proof.Machine.execNop s
  | .movReg reg1 reg2 => Sys2Proof.Machine.execMovReg reg1 reg2 s
  | .notReg reg1 reg2 => Sys2Proof.Machine.execNotReg reg1 reg2 s
  | .divhReg reg1 reg2 => Sys2Proof.Machine.execDivhReg reg1 reg2 s
  | .switch reg1 => Sys2Proof.Machine.execSwitch reg1 s
  | .jmp reg1 => Sys2Proof.Machine.execJmp reg1 s
  | .satsubr reg1 reg2 => Sys2Proof.Machine.execSatsubr reg1 reg2 s
  | .satsub reg1 reg2 => Sys2Proof.Machine.execSatsub reg1 reg2 s
  | .sataddReg reg1 reg2 => Sys2Proof.Machine.execSataddReg reg1 reg2 s
  | .mulhReg reg1 reg2 => Sys2Proof.Machine.execMulhReg reg1 reg2 s
  | .zxb reg1 => Sys2Proof.Machine.execZxb reg1 s
  | .sxb reg1 => Sys2Proof.Machine.execSxb reg1 s
  | .zxh reg1 => Sys2Proof.Machine.execZxh reg1 s
  | .sxh reg1 => Sys2Proof.Machine.execSxh reg1 s
  | .orReg reg1 reg2 => Sys2Proof.Machine.execOrReg reg1 reg2 s
  | .xorReg reg1 reg2 => Sys2Proof.Machine.execXorReg reg1 reg2 s
  | .andReg reg1 reg2 => Sys2Proof.Machine.execAndReg reg1 reg2 s
  | .tst reg1 reg2 => Sys2Proof.Machine.execTst reg1 reg2 s
  | .subr reg1 reg2 => Sys2Proof.Machine.execSubr reg1 reg2 s
  | .sub reg1 reg2 => Sys2Proof.Machine.execSub reg1 reg2 s
  | .addReg reg1 reg2 => Sys2Proof.Machine.execAddReg reg1 reg2 s
  | .cmpReg reg1 reg2 => Sys2Proof.Machine.execCmpReg reg1 reg2 s
  | .dbtrap => Sys2Proof.Machine.execDbtrap s
  | .movImm5 imm5 reg2 => Sys2Proof.Machine.execMovImm5 imm5 reg2 s
  | .sataddImm5 imm5 reg2 => Sys2Proof.Machine.execSataddImm5 imm5 reg2 s
  | .addImm5 imm5 reg2 => Sys2Proof.Machine.execAddImm5 imm5 reg2 s
  | .cmpImm5 imm5 reg2 => Sys2Proof.Machine.execCmpImm5 imm5 reg2 s
  | .callt imm6 => Sys2Proof.Machine.execCallt imm6 s
  | .shrImm5 imm5 reg2 => Sys2Proof.Machine.execShrImm5 imm5 reg2 s
  | .sarImm5 imm5 reg2 => Sys2Proof.Machine.execSarImm5 imm5 reg2 s
  | .shlImm5 imm5 reg2 => Sys2Proof.Machine.execShlImm5 imm5 reg2 s
  | .mulhImm5 imm5 reg2 => Sys2Proof.Machine.execMulhImm5 imm5 reg2 s
  | .bcond cond disp9 => Sys2Proof.Machine.execBcond cond disp9 s
  | .sldBu disp4 reg2 => Sys2Proof.Machine.execSldBu disp4 reg2 s
  | .sldHu disp5 reg2 => Sys2Proof.Machine.execSldHu disp5 reg2 s
  | .sldB disp7 reg2 => Sys2Proof.Machine.execSldB disp7 reg2 s
  | .sstB reg2 disp7 => Sys2Proof.Machine.execSstB reg2 disp7 s
  | .sldH disp8 reg2 => Sys2Proof.Machine.execSldH disp8 reg2 s
  | .sstH reg2 disp8 => Sys2Proof.Machine.execSstH reg2 disp8 s
  | .sldW disp8 reg2 => Sys2Proof.Machine.execSldW disp8 reg2 s
  | .sstW reg2 disp8 => Sys2Proof.Machine.execSstW reg2 disp8 s
  | .jarl disp22 reg2 => Sys2Proof.Machine.execJarl disp22 reg2 s
  | .jr disp22 => Sys2Proof.Machine.execJr disp22 s
  | .addi imm16 reg1 reg2 => Sys2Proof.Machine.execAddi imm16 reg1 reg2 s
  | .movea imm16 reg1 reg2 => Sys2Proof.Machine.execMovea imm16 reg1 reg2 s
  | .movhi imm16 reg1 reg2 => Sys2Proof.Machine.execMovhi imm16 reg1 reg2 s
  | .satsubi imm16 reg1 reg2 => Sys2Proof.Machine.execSatsubi imm16 reg1 reg2 s
  | .movImm32 imm32 reg1 => Sys2Proof.Machine.execMovImm32 imm32 reg1 s
  | .ori imm16 reg1 reg2 => Sys2Proof.Machine.execOri imm16 reg1 reg2 s
  | .xori imm16 reg1 reg2 => Sys2Proof.Machine.execXori imm16 reg1 reg2 s
  | .andi imm16 reg1 reg2 => Sys2Proof.Machine.execAndi imm16 reg1 reg2 s
  | .mulhi imm16 reg1 reg2 => Sys2Proof.Machine.execMulhi imm16 reg1 reg2 s
  | .ldB disp16 reg1 reg2 => Sys2Proof.Machine.execLdB disp16 reg1 reg2 s
  | .ldH disp16 reg1 reg2 => Sys2Proof.Machine.execLdH disp16 reg1 reg2 s
  | .ldW disp16 reg1 reg2 => Sys2Proof.Machine.execLdW disp16 reg1 reg2 s
  | .stB reg2 disp16 reg1 => Sys2Proof.Machine.execStB reg2 disp16 reg1 s
  | .stH reg2 disp16 reg1 => Sys2Proof.Machine.execStH reg2 disp16 reg1 s
  | .stW reg2 disp16 reg1 => Sys2Proof.Machine.execStW reg2 disp16 reg1 s
  | .ldBu disp16 reg1 reg2 => Sys2Proof.Machine.execLdBu disp16 reg1 reg2 s
  | .ldHu disp16 reg1 reg2 => Sys2Proof.Machine.execLdHu disp16 reg1 reg2 s
  | .set1Disp bit3 disp16 reg1 => Sys2Proof.Machine.execSet1Disp bit3 disp16 reg1 s
  | .not1Disp bit3 disp16 reg1 => Sys2Proof.Machine.execNot1Disp bit3 disp16 reg1 s
  | .clr1Disp bit3 disp16 reg1 => Sys2Proof.Machine.execClr1Disp bit3 disp16 reg1 s
  | .tst1Disp bit3 disp16 reg1 => Sys2Proof.Machine.execTst1Disp bit3 disp16 reg1 s
  | .setf cond reg2 => Sys2Proof.Machine.execSetf cond reg2 s
  | .ldsr reg2 regID => Sys2Proof.Machine.execLdsr reg2 regID s
  | .stsr regID reg2 => Sys2Proof.Machine.execStsr regID reg2 s
  | .shrReg reg1 reg2 => Sys2Proof.Machine.execShrReg reg1 reg2 s
  | .sarReg reg1 reg2 => Sys2Proof.Machine.execSarReg reg1 reg2 s
  | .shlReg reg1 reg2 => Sys2Proof.Machine.execShlReg reg1 reg2 s
  | .set1Reg reg2 reg1 => Sys2Proof.Machine.execSet1Reg reg2 reg1 s
  | .not1Reg reg2 reg1 => Sys2Proof.Machine.execNot1Reg reg2 reg1 s
  | .clr1Reg reg2 reg1 => Sys2Proof.Machine.execClr1Reg reg2 reg1 s
  | .tst1Reg reg2 reg1 => Sys2Proof.Machine.execTst1Reg reg2 reg1 s
  | .sasf cond reg2 => Sys2Proof.Machine.execSasf cond reg2 s
  | .trap vector => Sys2Proof.Machine.execTrap vector s
  | .halt => Sys2Proof.Machine.execHalt s
  | .reti => Sys2Proof.Machine.execReti s
  | .ctret => Sys2Proof.Machine.execCtret s
  | .dbret => Sys2Proof.Machine.execDbret s
  | .di => Sys2Proof.Machine.execDi s
  | .ei => Sys2Proof.Machine.execEi s
  | .mulReg reg1 reg2 reg3 => Sys2Proof.Machine.execMulReg reg1 reg2 reg3 s
  | .muluReg reg1 reg2 reg3 => Sys2Proof.Machine.execMuluReg reg1 reg2 reg3 s
  | .divhReg3 reg1 reg2 reg3 => Sys2Proof.Machine.execDivhReg3 reg1 reg2 reg3 s
  | .divhu reg1 reg2 reg3 => Sys2Proof.Machine.execDivhu reg1 reg2 reg3 s
  | .div reg1 reg2 reg3 => Sys2Proof.Machine.execDiv reg1 reg2 reg3 s
  | .divu reg1 reg2 reg3 => Sys2Proof.Machine.execDivu reg1 reg2 reg3 s
  | .cmovReg cond reg1 reg2 reg3 => Sys2Proof.Machine.execCmovReg cond reg1 reg2 reg3 s
  | .mulImm9 imm9 reg2 reg3 => Sys2Proof.Machine.execMulImm9 imm9 reg2 reg3 s
  | .muluImm9 imm9 reg2 reg3 => Sys2Proof.Machine.execMuluImm9 imm9 reg2 reg3 s
  | .cmovImm5 cond imm5 reg2 reg3 => Sys2Proof.Machine.execCmovImm5 cond imm5 reg2 reg3 s
  | .bsw reg2 reg3 => Sys2Proof.Machine.execBsw reg2 reg3 s
  | .bsh reg2 reg3 => Sys2Proof.Machine.execBsh reg2 reg3 s
  | .hsw reg2 reg3 => Sys2Proof.Machine.execHsw reg2 reg3 s
  | .disposeJump imm5 list12 reg1 => Sys2Proof.Machine.execDisposeJump imm5 list12 reg1 s
  | .dispose imm5 list12 => Sys2Proof.Machine.execDispose imm5 list12 s
  | .prepare list12 imm5 => Sys2Proof.Machine.execPrepare list12 imm5 s
  | .prepareSp list12 imm5 => Sys2Proof.Machine.execPrepareSp list12 imm5 s
  | .prepareImm16 list12 imm5 imm16 => Sys2Proof.Machine.execPrepareImm16 list12 imm5 imm16 s
  | .prepareHi16 list12 imm5 imm16 => Sys2Proof.Machine.execPrepareHi16 list12 imm5 imm16 s
  | .prepareImm32 list12 imm5 imm32 => Sys2Proof.Machine.execPrepareImm32 list12 imm5 imm32 s
  | .illegal0111 bits15 bits4 bits31 bits22 => Sys2Proof.Machine.execIllegal0111 bits15 bits4 bits31 bits22 s
  | .illegal1xxx bits15 bits4 bits31 bits25 bits22 => Sys2Proof.Machine.execIllegal1xxx bits15 bits4 bits31 bits25 bits22 s

end Sys2Proof.Machine
end

