-- ==== Sys2Proof/Machine/Step.lean ====
section
/-! DEFINITION. One step of the machine: one instruction boundary, and the instruction after it if there is one
(60_exceptions.md R445, R449). -/

namespace Sys2Proof.Machine

/-- Fetch, decode and execute (30_encoding.md R173). An undefined encoding has no meaning (93_implementation_defined.md U1,
U2; log 17). -/
def runInstruction (s : State) : Host.Outcome State Fault Refusal :=
  match s.fetch with
  | .ok i => exec i s.begin
  | .error c => .refused (.undefinedInstruction c)

/-- One step: the host's input; then system reset, or HALT mode going on, or an accepted request, or an instruction. -/
def step (s : State) : Host.Outcome State Fault Refusal :=
  if s.resetAsserted then .next s.takeInput.systemReset
  else if s.takeInput.staysHalted then .next s.takeInput
  else
    match s.takeInput.accepted with
    | some e => .next (s.takeInput.wake.accept e)
    | none => runInstruction s.takeInput.wake

/-- `s` with a table word placed where `step` fetches its next instruction (log 28). -/
def State.withFetchWord (s : State) (nbits w : Nat) : State := s.placeTableWord nbits w

end Sys2Proof.Machine
end

