-- ==== Sys2Proof/Safety.lean ====
section
/-! DEFINITION. The invariant of the machine, and the observations in which statements are written: what an instruction
changes and what it leaves. -/

namespace Sys2Proof.Machine

/-- A value that PC can hold: bits 31..26 and bit 0 are 0 (10_state.md R34). -/
def isPc (v : Word) : Prop := v &&& 0xFC000001#32 = 0#32

/-- Every fixed-0 field reads 0, slot 0 of the register file holds 0, and memory is in its canonical form
(10_state.md R31, R34, R40 to R49). -/
structure State.Inv (s : State) : Prop where
  r0 : s.gr[0] = 0#32
  pc : isPc s.pc
  eipc : s.eipc &&& 0xFC000000#32 = 0#32
  fepc : s.fepc &&& 0xFC000000#32 = 0#32
  ctpc : s.ctpc &&& 0xFC000000#32 = 0#32
  dbpc : s.dbpc &&& 0xFC000000#32 = 0#32
  eipsw : s.eipsw &&& 0xFFFFFF00#32 = 0#32
  fepsw : s.fepsw &&& 0xFFFFFF00#32 = 0#32
  psw : s.psw &&& 0xFFFFFF00#32 = 0#32
  ctpsw : s.ctpsw &&& 0xFFFFFF00#32 = 0#32
  dbpsw : s.dbpsw &&& 0xFFFFFF00#32 = 0#32
  ctbp : isPc s.ctbp
  dir : s.dir &&& 0xFFFFFFFE#32 = 0#32
  mem : s.mem.wf = true

/-- The program address n bytes after pc (10_state.md R35, R36). -/
def State.nextPc (s : State) (n : Nat) : Word := (s.pc + BitVec.ofNat 32 n) &&& 0x03FFFFFE#32

/-- GR[r] after a list of register writes, the newest first; r0 reads 0 (10_state.md R31). -/
def State.regAfter (s : State) : List (RegNum × Word) → RegNum → Word
  | [], r => s.reg r
  | (q, v) :: earlier, r => if r = q then (if q = 0#5 then 0#32 else v) else State.regAfter s earlier r

/-- PSW.b after a list of flag writes, the newest first. -/
def State.flagAfter (s : State) : List (PswBit × Bool) → PswBit → Bool
  | [], b => s.flag b
  | (c, v) :: earlier, b => if b = c then v else State.flagAfter s earlier b

/-- The general registers of t are those of s after these writes. -/
def RegsAre (s t : State) (writes : List (RegNum × Word)) : Prop := ∀ r, t.reg r = s.regAfter writes r

/-- The PSW of t is that of s after these flag writes; bits 31..8 are those of s. -/
def FlagsAre (s t : State) (writes : List (PswBit × Bool)) : Prop :=
  (∀ b, t.flag b = s.flagAfter writes b) ∧ t.psw.extractLsb' 8 24 = s.psw.extractLsb' 8 24

/-- Every system register but the listed ones is unchanged. -/
def SysKept (except : List SysReg) (s t : State) : Prop := ∀ r, r ∉ except → t.sysReg r = s.sysReg r

/-- Every byte of memory is unchanged. -/
def MemKept (s t : State) : Prop := ∀ a : Nat, t.mem.read a = s.mem.read a

/-- The bytes from address a on are stored, but for those not in RAM; every other byte is unchanged. -/
def MemStored (s t : State) (a : Word) (bytes : List Byte) : Prop :=
  (∀ k (h : k < bytes.length),
    t.mem.read (a + BitVec.ofNat 32 k).toNat =
      if s.inRam (a + BitVec.ofNat 32 k) then bytes[k] else s.mem.read (a + BitVec.ofNat 32 k).toNat) ∧
  ∀ b : Nat, (∀ k, k < bytes.length → b ≠ (a + BitVec.ofNat 32 k).toNat) → t.mem.read b = s.mem.read b

/-- HALT mode, the request lines, the product and the model's own fields are unchanged. -/
def EnvKept (s t : State) : Prop :=
  t.halted = s.halted ∧ t.requests = s.requests ∧ t.host = s.host ∧ t.product = s.product ∧
    t.hostAreas = s.hostAreas ∧ t.tick = s.tick

/-- The instruction completes: it answers a next state with these register and flag writes and this pc, and changes
nothing else: no other register or flag, no system register but PSW, no byte of memory. -/
def Completes (i : Instr) (s : State) (regs : List (RegNum × Word)) (flags : List (PswBit × Bool)) (pc : Word) : Prop :=
  ∃ t, exec i s = .next t ∧ RegsAre s t regs ∧ FlagsAre s t flags ∧ t.pc = pc ∧ SysKept [.psw] s t ∧ MemKept s t ∧
    EnvKept s t ∧ t.acceptPoint = s.acceptPoint

/-- The instruction completes with a store: as `Completes`, and these bytes are stored from address a on. -/
def CompletesStore (i : Instr) (s : State) (a : Word) (bytes : List Byte) (regs : List (RegNum × Word))
    (flags : List (PswBit × Bool)) (pc : Word) : Prop :=
  ∃ t, exec i s = .next t ∧ RegsAre s t regs ∧ FlagsAre s t flags ∧ t.pc = pc ∧ SysKept [.psw] s t ∧
    MemStored s t a bytes ∧ EnvKept s t ∧ t.acceptPoint = s.acceptPoint

/-- The bytes of a word, the lowest first (20_memory.md R92). -/
def wordBytes (v : Word) : List Byte := [v.extractLsb' 0 8, v.extractLsb' 8 8, v.extractLsb' 16 8, v.extractLsb' 24 8]

/-- The bytes of a half-word, the lowest first (20_memory.md R92). -/
def halfBytes (v : Half) : List Byte := [v.extractLsb' 0 8, v.extractLsb' 8 8]

/-- An exact integer that a signed word cannot hold (00_scope.md R21). -/
def overflows (x : Int) : Bool := decide (¬(-2147483648 ≤ x ∧ x ≤ 2147483647))

/-- The flags of add(a, b) (00_scope.md R21). -/
def addWrites (a b : Word) : List (PswBit × Bool) :=
  [(.cy, decide (a.toNat + b.toNat ≥ 4294967296)), (.ov, overflows (a.toInt + b.toInt)), (.s, (a + b).getLsbD 31),
    (.z, decide (a + b = 0#32))]

/-- The flags of sub(a, b), computing a - b (00_scope.md R21). -/
def subWrites (a b : Word) : List (PswBit × Bool) :=
  [(.cy, decide (a.toNat < b.toNat)), (.ov, overflows (a.toInt - b.toInt)), (.s, (a - b).getLsbD 31),
    (.z, decide (a - b = 0#32))]

/-- An exact integer brought into the range of a signed word (43_saturated.md R290). -/
def clamp (x : Int) : Int := max (-2147483648) (min x 2147483647)

/-- The flags of a saturated operation with the exact value x and the carry or borrow cy (43_saturated.md R291). -/
def State.satWrites (s : State) (x : Int) (cy : Bool) : List (PswBit × Bool) :=
  [(.cy, cy), (.ov, overflows x), (.s, decide (x < 0)), (.z, decide (x = 0)), (.sat, s.flag .sat || overflows x)]

/-- logic_flags(res) (44_logical.md R301). -/
def logicWrites (res : Word) : List (PswBit × Bool) := [(.ov, false), (.s, res.getLsbD 31), (.z, decide (res = 0#32))]

/-- The flags of a shift with result res and last bit out (44_logical.md R319). -/
def shiftWrites (res : Word) (lastOut : Bool) : List (PswBit × Bool) := (.cy, lastOut) :: logicWrites res

/-- The entry of an event: the restored PC and the PSW saved to a pair of registers, these flags written, control at pc, no
general register, no memory and no system register but the pair, PSW and the listed ones changed (60_exceptions.md R450). -/
def Enters (s t : State) (pcReg pswReg : SysReg) (rpc : Word) (flags : List (PswBit × Bool)) (pc : Word)
    (others : List SysReg) : Prop :=
  t.sysReg pcReg = rpc ∧ t.sysReg pswReg = s.psw &&& 0x000000FF#32 ∧ FlagsAre s t flags ∧ t.pc = pc ∧
    SysKept (pcReg :: pswReg :: .psw :: others) s t ∧ RegsAre s t [] ∧ MemKept s t

/-- A return: PSW is bits 7..0 of one save register, PC the reduced other one; nothing else changes but the listed system
registers (10_state.md R51, R35). -/
def Returns (s t : State) (pcReg pswReg : SysReg) (others : List SysReg) : Prop :=
  t.pc = s.sysReg pcReg &&& 0x03FFFFFE#32 ∧ t.psw = s.sysReg pswReg &&& 0x000000FF#32 ∧
    SysKept (.psw :: others) s t ∧ RegsAre s t [] ∧ MemKept s t ∧ EnvKept s t ∧ t.acceptPoint = s.acceptPoint

/-- The system registers with their numbers, the bits that LDSR stores, and whether LDSR may write them (10_state.md R38,
R50). -/
def sysRegTable : List (BitVec 5 × SysReg × Word) :=
  [(0, .eipc, 0x03FFFFFF#32), (1, .eipsw, 0xFF#32), (2, .fepc, 0x03FFFFFF#32), (3, .fepsw, 0xFF#32), (5, .psw, 0xFF#32),
    (16, .ctpc, 0x03FFFFFF#32), (17, .ctpsw, 0xFF#32), (18, .dbpc, 0x03FFFFFF#32), (19, .dbpsw, 0xFF#32),
    (20, .ctbp, 0x03FFFFFE#32)]

/-- Address of byte j of the k-th word that PREPARE stores below the stack address t (47_special.md R404, R401). -/
def pushAddress (t : Word) (k j : Nat) : Word :=
  ((t - BitVec.ofNat 32 (4 * (k + 1))) &&& 0xFFFFFFFC#32) + BitVec.ofNat 32 j

/-- The words of PREPARE are stored, but for bytes not in RAM; every other byte is unchanged (47_special.md R404). -/
def Pushed (s t : State) (regs : List RegNum) : Prop :=
  (∀ k (h : k < regs.length), ∀ j, j < 4 →
    t.mem.read (pushAddress (s.reg 3#5) k j).toNat =
      if s.inRam (pushAddress (s.reg 3#5) k j) then (s.reg regs[k]).extractLsb' (8 * j) 8
      else s.mem.read (pushAddress (s.reg 3#5) k j).toNat) ∧
  ∀ b : Nat, (∀ k, k < regs.length → ∀ j, j < 4 → b ≠ (pushAddress (s.reg 3#5) k j).toNat) →
    t.mem.read b = s.mem.read b

/-- PREPARE completes: the words stored, these register writes, this pc, and nothing else changed (47_special.md R404). -/
def CompletesPrepare (i : Instr) (s : State) (list12 : RegList) (regs : List (RegNum × Word)) (pc : Word) : Prop :=
  ∃ t, exec i s = .next t ∧ Pushed s t (listedRegs list12) ∧ RegsAre s t regs ∧ FlagsAre s t [] ∧ t.pc = pc ∧
    SysKept [] s t ∧ EnvKept s t ∧ t.acceptPoint = s.acceptPoint

/-- The registers after DISPOSE from the stack address a: the k-th listed register from the top receives the k-th word, sp
the address after the last word, and no other register changes (47_special.md R408). -/
def Popped (s t : State) (a : Word) (list12 : RegList) : Prop :=
  (∀ k (h : k < (listedRegs list12).reverse.length), t.reg (listedRegs list12).reverse[k] =
    s.load4 ((a + BitVec.ofNat 32 (4 * k)) &&& 0xFFFFFFFC#32)) ∧
  t.reg 3#5 = a + BitVec.ofNat 32 (4 * (listedRegs list12).length) ∧
  ∀ r, r ≠ 3#5 → r ∉ listedRegs list12 → t.reg r = s.reg r

/-- The flags that an instruction may write (10_state.md R54). -/
def flagsWritten : Instr → List PswBit
  | .addReg _ _ | .addImm5 _ _ | .addi _ _ _ | .cmpReg _ _ | .cmpImm5 _ _ | .sub _ _ | .subr _ _ => [.cy, .ov, .s, .z]
  | .sataddReg _ _ | .sataddImm5 _ _ | .satsub _ _ | .satsubi _ _ _ | .satsubr _ _ => [.cy, .ov, .s, .z, .sat]
  | .div _ _ _ | .divhReg _ _ | .divhReg3 _ _ _ | .divhu _ _ _ | .divu _ _ _ => [.ov, .s, .z]
  | .andReg _ _ | .andi _ _ _ | .notReg _ _ | .orReg _ _ | .ori _ _ _ | .xorReg _ _ | .xori _ _ _ | .tst _ _ =>
    [.ov, .s, .z]
  | .sarReg _ _ | .sarImm5 _ _ | .shlReg _ _ | .shlImm5 _ _ | .shrReg _ _ | .shrImm5 _ _ => [.cy, .ov, .s, .z]
  | .bsh _ _ | .bsw _ _ | .hsw _ _ => [.cy, .ov, .s, .z]
  | .set1Disp _ _ _ | .set1Reg _ _ | .clr1Disp _ _ _ | .clr1Reg _ _ => [.z]
  | .not1Disp _ _ _ | .not1Reg _ _ | .tst1Disp _ _ _ | .tst1Reg _ _ => [.z]
  | .ldsr _ regID => if regID = 5#5 then [.z, .s, .ov, .cy, .sat, .id, .ep, .np] else []
  | .reti | .ctret | .dbret => [.z, .s, .ov, .cy, .sat, .id, .ep, .np]
  | .di | .ei => [.id]
  | .trap _ => [.ep, .id]
  | .dbtrap | .illegal0111 _ _ _ _ | .illegal1xxx _ _ _ _ _ => [.np, .ep, .id]
  | .nop | .movReg _ _ | .switch _ | .jmp _ | .mulhReg _ _ | .zxb _ | .sxb _ | .zxh _ | .sxh _ | .movImm5 _ _ => []
  | .callt _ | .mulhImm5 _ _ | .bcond _ _ | .sldBu _ _ | .sldHu _ _ | .sldB _ _ | .sstB _ _ | .sldH _ _ => []
  | .sstH _ _ | .sldW _ _ | .sstW _ _ | .jarl _ _ | .jr _ | .movea _ _ _ | .movhi _ _ _ | .movImm32 _ _ => []
  | .mulhi _ _ _ | .ldB _ _ _ | .ldH _ _ _ | .ldW _ _ _ | .stB _ _ _ | .stH _ _ _ | .stW _ _ _ | .ldBu _ _ _ => []
  | .ldHu _ _ _ | .setf _ _ | .stsr _ _ | .sasf _ _ | .halt | .mulReg _ _ _ | .muluReg _ _ _ | .cmovReg _ _ _ _ => []
  | .mulImm9 _ _ _ | .muluImm9 _ _ _ | .cmovImm5 _ _ _ _ | .disposeJump _ _ _ | .dispose _ _ | .prepare _ _ => []
  | .prepareSp _ _ | .prepareImm16 _ _ _ | .prepareHi16 _ _ _ | .prepareImm32 _ _ _ => []

/-- The instructions that store to memory (20_memory.md R119, 40_load_store.md R202, 47_special.md R380). -/
def storesToMemory : Instr → Prop
  | .stB _ _ _ | .stH _ _ _ | .stW _ _ _ | .sstB _ _ | .sstH _ _ | .sstW _ _ => True
  | .set1Disp _ _ _ | .set1Reg _ _ | .clr1Disp _ _ _ | .clr1Reg _ _ | .not1Disp _ _ _ | .not1Reg _ _ => True
  | .prepare _ _ | .prepareSp _ _ | .prepareImm16 _ _ _ | .prepareHi16 _ _ _ | .prepareImm32 _ _ _ => True
  | .nop | .movReg _ _ | .notReg _ _ | .divhReg _ _ | .switch _ | .jmp _ | .satsubr _ _ | .satsub _ _ => False
  | .sataddReg _ _ | .mulhReg _ _ | .zxb _ | .sxb _ | .zxh _ | .sxh _ | .orReg _ _ | .xorReg _ _ | .andReg _ _ => False
  | .tst _ _ | .subr _ _ | .sub _ _ | .addReg _ _ | .cmpReg _ _ | .dbtrap | .movImm5 _ _ | .sataddImm5 _ _ => False
  | .addImm5 _ _ | .cmpImm5 _ _ | .callt _ | .shrImm5 _ _ | .sarImm5 _ _ | .shlImm5 _ _ | .mulhImm5 _ _ => False
  | .bcond _ _ | .sldBu _ _ | .sldHu _ _ | .sldB _ _ | .sldH _ _ | .sldW _ _ | .jarl _ _ | .jr _ | .addi _ _ _ => False
  | .movea _ _ _ | .movhi _ _ _ | .satsubi _ _ _ | .movImm32 _ _ | .ori _ _ _ | .xori _ _ _ | .andi _ _ _ => False
  | .mulhi _ _ _ | .ldB _ _ _ | .ldH _ _ _ | .ldW _ _ _ | .ldBu _ _ _ | .ldHu _ _ _ | .tst1Disp _ _ _ => False
  | .setf _ _ | .ldsr _ _ | .stsr _ _ | .shrReg _ _ | .sarReg _ _ | .shlReg _ _ | .tst1Reg _ _ | .sasf _ _ => False
  | .trap _ | .halt | .reti | .ctret | .dbret | .di | .ei | .mulReg _ _ _ | .muluReg _ _ _ | .divhReg3 _ _ _ => False
  | .divhu _ _ _ | .div _ _ _ | .divu _ _ _ | .cmovReg _ _ _ _ | .mulImm9 _ _ _ | .muluImm9 _ _ _ => False
  | .cmovImm5 _ _ _ _ | .bsw _ _ | .bsh _ _ | .hsw _ _ | .disposeJump _ _ _ | .dispose _ _ => False
  | .illegal0111 _ _ _ _ | .illegal1xxx _ _ _ _ _ => False

/-- The system registers, PSW apart, that an instruction may write (47_special.md R380 (a), 10_state.md R42, R46, R47,
R49). -/
def sysRegsWritten : Instr → List SysReg
  | .trap _ => [.eipc, .eipsw, .ecr]
  | .dbtrap | .illegal0111 _ _ _ _ | .illegal1xxx _ _ _ _ _ => [.dbpc, .dbpsw, .dir]
  | .dbret => [.dir]
  | .callt _ => [.ctpc, .ctpsw]
  | .ldsr _ regID => (sysRegTable.filter fun p => p.1 = regID).map fun p => p.2.1
  | .nop | .movReg _ _ | .notReg _ _ | .divhReg _ _ | .switch _ | .jmp _ | .satsubr _ _ | .satsub _ _ => []
  | .sataddReg _ _ | .mulhReg _ _ | .zxb _ | .sxb _ | .zxh _ | .sxh _ | .orReg _ _ | .xorReg _ _ | .andReg _ _ => []
  | .tst _ _ | .subr _ _ | .sub _ _ | .addReg _ _ | .cmpReg _ _ | .movImm5 _ _ | .sataddImm5 _ _ | .addImm5 _ _ => []
  | .cmpImm5 _ _ | .shrImm5 _ _ | .sarImm5 _ _ | .shlImm5 _ _ | .mulhImm5 _ _ | .bcond _ _ | .sldBu _ _ => []
  | .sldHu _ _ | .sldB _ _ | .sstB _ _ | .sldH _ _ | .sstH _ _ | .sldW _ _ | .sstW _ _ | .jarl _ _ | .jr _ => []
  | .addi _ _ _ | .movea _ _ _ | .movhi _ _ _ | .satsubi _ _ _ | .movImm32 _ _ | .ori _ _ _ | .xori _ _ _ => []
  | .andi _ _ _ | .mulhi _ _ _ | .ldB _ _ _ | .ldH _ _ _ | .ldW _ _ _ | .stB _ _ _ | .stH _ _ _ | .stW _ _ _ => []
  | .ldBu _ _ _ | .ldHu _ _ _ | .set1Disp _ _ _ | .not1Disp _ _ _ | .clr1Disp _ _ _ | .tst1Disp _ _ _ => []
  | .setf _ _ | .stsr _ _ | .shrReg _ _ | .sarReg _ _ | .shlReg _ _ | .set1Reg _ _ | .not1Reg _ _ => []
  | .clr1Reg _ _ | .tst1Reg _ _ | .sasf _ _ | .halt | .reti | .ctret | .di | .ei | .mulReg _ _ _ => []
  | .muluReg _ _ _ | .divhReg3 _ _ _ | .divhu _ _ _ | .div _ _ _ | .divu _ _ _ | .cmovReg _ _ _ _ => []
  | .mulImm9 _ _ _ | .muluImm9 _ _ _ | .cmovImm5 _ _ _ _ | .bsw _ _ | .bsh _ _ | .hsw _ _ | .disposeJump _ _ _ => []
  | .dispose _ _ | .prepare _ _ | .prepareSp _ _ | .prepareImm16 _ _ _ | .prepareHi16 _ _ _ => []
  | .prepareImm32 _ _ _ => []

/-- An operand combination or system register number whose operation the manual does not guarantee
(93_implementation_defined.md U3, U4, U5). -/
def notGuaranteed : Instr → Prop
  | .mulReg reg1 reg2 reg3 | .muluReg reg1 reg2 reg3 => reg1 = reg3 ∧ reg1 ≠ reg2 ∧ reg1 ≠ 0#5 ∧ reg3 ≠ 0#5
  | .ldsr _ regID => regID.toNat = 4 ∨ regID.toNat = 21 ∨ (6 ≤ regID.toNat ∧ regID.toNat ≤ 15) ∨ 22 ≤ regID.toNat
  | .stsr regID _ => (6 ≤ regID.toNat ∧ regID.toNat ≤ 15) ∨ 22 ≤ regID.toNat
  | .nop | .movReg _ _ | .notReg _ _ | .divhReg _ _ | .switch _ | .jmp _ | .satsubr _ _ | .satsub _ _ => False
  | .sataddReg _ _ | .mulhReg _ _ | .zxb _ | .sxb _ | .zxh _ | .sxh _ | .orReg _ _ | .xorReg _ _ | .andReg _ _ => False
  | .tst _ _ | .subr _ _ | .sub _ _ | .addReg _ _ | .cmpReg _ _ | .dbtrap | .movImm5 _ _ | .sataddImm5 _ _ => False
  | .addImm5 _ _ | .cmpImm5 _ _ | .callt _ | .shrImm5 _ _ | .sarImm5 _ _ | .shlImm5 _ _ | .mulhImm5 _ _ => False
  | .bcond _ _ | .sldBu _ _ | .sldHu _ _ | .sldB _ _ | .sstB _ _ | .sldH _ _ | .sstH _ _ | .sldW _ _ => False
  | .sstW _ _ | .jarl _ _ | .jr _ | .addi _ _ _ | .movea _ _ _ | .movhi _ _ _ | .satsubi _ _ _ | .movImm32 _ _ => False
  | .ori _ _ _ | .xori _ _ _ | .andi _ _ _ | .mulhi _ _ _ | .ldB _ _ _ | .ldH _ _ _ | .ldW _ _ _ | .stB _ _ _ => False
  | .stH _ _ _ | .stW _ _ _ | .ldBu _ _ _ | .ldHu _ _ _ | .set1Disp _ _ _ | .not1Disp _ _ _ | .clr1Disp _ _ _ => False
  | .tst1Disp _ _ _ | .setf _ _ | .shrReg _ _ | .sarReg _ _ | .shlReg _ _ | .set1Reg _ _ | .not1Reg _ _ => False
  | .clr1Reg _ _ | .tst1Reg _ _ | .sasf _ _ | .trap _ | .halt | .reti | .ctret | .dbret | .di | .ei => False
  | .divhReg3 _ _ _ | .divhu _ _ _ | .div _ _ _ | .divu _ _ _ | .cmovReg _ _ _ _ | .mulImm9 _ _ _ => False
  | .muluImm9 _ _ _ | .cmovImm5 _ _ _ _ | .bsw _ _ | .bsh _ _ | .hsw _ _ | .disposeJump _ _ _ | .dispose _ _ => False
  | .prepare _ _ | .prepareSp _ _ | .prepareImm16 _ _ _ | .prepareHi16 _ _ _ | .prepareImm32 _ _ _ => False
  | .illegal0111 _ _ _ _ | .illegal1xxx _ _ _ _ _ => False

end Sys2Proof.Machine
end

