-- ==== Sys2Proof/Certificates/Slice0/Obligations.lean ====
section
/-! DEFINITION. The statements for the provers. A statement without a rule's number rests on the sections its entry of
OBLIGATIONS.json cites. -/

open Sys2Proof Sys2Proof.Machine

/-! ### Encoding -/

/-- Words written out from 30_encoding.md R174 decode to the instructions they stand for. -/
def Obligations.KnownWordsDecode : Prop :=
  decodeHalves 0x0000#16 0 0 0 = .ok .nop ∧
  decodeHalves 0x39C6#16 0 0 0 = .ok (.addReg 6 7) ∧
  decodeHalves 0x05CA#16 0 0 0 = .ok (.bcond .nz 8) ∧
  decodeHalves 0x3F26#16 0x0009#16 0 0 = .ok (.ldW 8 6 7) ∧
  decodeHalves 0x3FA6#16 0x0005#16 0 0 = .ok (.ldBu 5 6 7) ∧
  decodeHalves 0x3FE6#16 0x4220#16 0 0 = .ok (.mulReg 6 7 8) ∧
  decodeHalves 0x38C6#16 0 0 0 = .ok (.sataddReg 6 7) ∧
  decodeHalves 0x3FE6#16 0x00A0#16 0 0 = .ok (.sarReg 6 7) ∧
  decodeHalves 0x1FC6#16 0x0010#16 0 0 = .ok (.set1Disp 3 0x10 6) ∧
  decodeHalves 0x2FE6#16 0x0020#16 0 0 = .ok (.ldsr 6 5) ∧
  decodeHalves 0xF840#16 0 0 0 = .ok .dbtrap ∧
  decodeHalves 0x0627#16 0x5678#16 0x1234#16 0 = .ok (.movImm32 0x12345678 7) ∧
  decodeHalves 0x0780#16 0x003B#16 0x5678#16 0x1234#16 = .ok (.prepareImm32 0x800 0 0x12345678)

/-- Decode and encode agree: the decoder reads every well-formed instruction from its own words. -/
def Obligations.DecodeEncode : Prop := ∀ i : Instr, i.wellFormed = true → decodeHalfList (encode i) = .ok i

/-- Encode and decode agree: a decoded instruction is well formed and its words are the half-words it was read from, so that
no bit of a defined encoding is dropped. -/
def Obligations.EncodeDecode : Prop :=
  ∀ (h0 h1 h2 h3 : Half) (i : Instr), decodeHalves h0 h1 h2 h3 = .ok i →
    i.wellFormed = true ∧ encode i = [h0, h1, h2, h3].take (i.length / 2)

/-- 30_encoding.md R141: the length of an instruction, from its first half-words. -/
def Obligations.LengthFromHalfWords : Prop :=
  ∀ (h0 h1 h2 h3 : Half) (i : Instr), decodeHalves h0 h1 h2 h3 = .ok i →
    i.length =
      if h0.extractLsb' 9 2 ≠ 0b11#2 then 2
      else if h0.extractLsb' 5 6 = 0b110001#6 ∧ h0.extractLsb' 11 5 = 0#5 then 6
      else if h0.extractLsb' 6 5 = 0b11110#5 ∧ h0.extractLsb' 11 5 = 0#5 ∧ h1.getLsbD 0 = true ∧
          h1.extractLsb' 0 3 = 0b011#3 then
        if h1.extractLsb' 3 2 = 0b00#2 then 4 else if h1.extractLsb' 3 2 = 0b11#2 then 8 else 6
      else 4

/-- 30_encoding.md R170, 60_exceptions.md R463: which words are the illegal instruction, whatever their other bits, and what
executing one does. That ECR is not written is R465's resolution of a conflict (90_conflicts.md C14, log 36). -/
def Obligations.IllegalInstructionClass : Prop :=
  ∀ h0 h1 h2 h3 : Half,
    let illegal : Prop := h0.extractLsb' 5 6 = 0b111111#6 ∧ h1.getLsbD 0 = false ∧ 7 ≤ (h1.extractLsb' 7 4).toNat
    (illegal ↔ (∃ a b c d, decodeHalves h0 h1 h2 h3 = .ok (.illegal0111 a b c d)) ∨
      (∃ a b c d e, decodeHalves h0 h1 h2 h3 = .ok (.illegal1xxx a b c d e))) ∧
    (illegal → ∃ i, decodeHalves h0 h1 h2 h3 = .ok i ∧ i.length = 4 ∧ ∀ s : State, ∃ t, exec i s = .next t ∧
      Enters s t .dbpc .dbpsw (s.nextPc 4) [(.np, true), (.ep, true), (.id, true)] 0x00000060#32 [.dir] ∧ t.dir = 1#32 ∧
      EnvKept s t ∧ t.acceptPoint = s.acceptPoint)

/-- 30_encoding.md R171 (a) to (f), R172: these encodings decode to no instruction. -/
def Obligations.UndefinedEncodings : Prop :=
  ∀ h0 h1 h2 h3 : Half,
    (h0.extractLsb' 5 6 = 0b000010#6 ∧ h0.extractLsb' 0 5 = 0#5 ∧ h0.extractLsb' 11 5 ≠ 31#5 →
      decodeHalves h0 h1 h2 h3 = .error .divhReservedRegister) ∧
    (h0.extractLsb' 11 5 = 0#5 ∧ h0.extractLsb' 5 6 = 0b010111#6 → decodeHalves h0 h1 h2 h3 = .error .mulhImm5R0) ∧
    (h0.extractLsb' 11 5 = 0#5 ∧ h0.extractLsb' 5 6 = 0b110111#6 → decodeHalves h0 h1 h2 h3 = .error .mulhiR0) ∧
    (h0.extractLsb' 11 5 = 0#5 ∧ h0.extractLsb' 5 6 = 0b111111#6 ∧ h1.getLsbD 0 = true →
      decodeHalves h0 h1 h2 h3 = .error .ldHuR0) ∧
    (h0.extractLsb' 11 5 = 0#5 ∧ h0.extractLsb' 6 5 = 0b11110#5 ∧ h1.getLsbD 0 = true ∧
        h1.extractLsb' 0 5 ≠ 0b00001#5 ∧ h1.extractLsb' 0 3 ≠ 0b011#3 →
      decodeHalves h0 h1 h2 h3 = .error .prepareSubOpcode) ∧
    (h0.extractLsb' 5 6 = 0b111111#6 ∧ h1.getLsbD 0 = false ∧
        (h1.extractLsb' 5 6 = 0b000011#6 ∨ (h1.extractLsb' 5 6 = 0b001010#6 ∧ h1.extractLsb' 1 2 = 0b01#2) ∨
          (h1.extractLsb' 5 6 = 0b001011#6 ∧ h0.extractLsb' 11 5 ≠ 0#5 ∧ h0.extractLsb' 11 5 ≠ 0b10000#5) ∨
          h1.extractLsb' 7 4 = 0b0011#4 ∨ h1.extractLsb' 5 6 = 0b010101#6 ∨ h1.extractLsb' 5 6 = 0b010111#6 ∨
          (h1.extractLsb' 5 6 = 0b011010#6 ∧ h1.extractLsb' 1 2 = 0b11#2) ∨ h1.extractLsb' 5 6 = 0b011011#6) →
      decodeHalves h0 h1 h2 h3 = .error .extendedMapCell)

/-- 47_special.md R400: which registers the list field of PREPARE and DISPOSE names, each once and in ascending order. -/
def Obligations.RegisterListField : Prop :=
  ∀ h0 h1 : Half,
    (∀ r : RegNum, r ∈ listedRegs (regListOf h0 h1) ↔
      (r = 20 ∧ h1.getLsbD 11) ∨ (r = 21 ∧ h1.getLsbD 10) ∨ (r = 22 ∧ h1.getLsbD 9) ∨ (r = 23 ∧ h1.getLsbD 8) ∨
      (r = 24 ∧ h1.getLsbD 15) ∨ (r = 25 ∧ h1.getLsbD 14) ∨ (r = 26 ∧ h1.getLsbD 13) ∨ (r = 27 ∧ h1.getLsbD 12) ∨
      (r = 28 ∧ h1.getLsbD 7) ∨ (r = 29 ∧ h1.getLsbD 6) ∨ (r = 30 ∧ h0.getLsbD 0) ∨ (r = 31 ∧ h1.getLsbD 5)) ∧
    (listedRegs (regListOf h0 h1)).Pairwise (· < ·)

/-! ### Steps, requests, HALT mode, reset -/

/-- FetchHalf (20_memory.md R102, R91, 30_encoding.md R140): the k-th half-word is the little-endian pair of the bytes at the
program address pc + 2k modulo 2^26, read as MemRead reads them; in memory these are the cells. That an instruction
continues at 0 after 03FFFFFFH is an inference (log 35), that it is read when it executes the spec's decision D7 (log 4),
that a host area answers a fetch the decision D4 (log 3), that a fetch has a tick of its own the model's (log 8). -/
def Obligations.FetchedHalfWords : Prop :=
  ∀ (s : State) (k : Nat), isPc s.pc → k < 4 →
    let a := (s.pc.toNat + 2 * k) % 2 ^ 26
    let lo : Word := BitVec.ofNat 32 a
    let hi : Word := BitVec.ofNat 32 (a + 1)
    let f : State := { s with tick := s.tick + 1 }
    (s.fetchHalf k).toNat = (f.byteAt lo).toNat + 256 * (f.byteAt hi).toNat ∧
    (s.inHostArea lo = false → f.byteAt lo = s.mem.read a) ∧ (s.inHostArea hi = false → f.byteAt hi = s.mem.read (a + 1))

/-- A step runs the decoded instruction: with no reset, not staying halted and no request accepted, where the half-words at
pc decode to i, step is exec of i in the state after the host's input (log 9), awake, with the boundary after it an
acceptance point (log 10) and the host bytes fresh (log 8). That a halted state with a request that PSW holds back wakes and
runs is the spec's decision D18 (log 13, PRESUMED). -/
def Obligations.StepRunsDecoded : Prop :=
  ∀ (s : State) (i : Instr), s.resetAsserted = false → s.takeInput.staysHalted = false → s.takeInput.accepted = none →
    decodeHalves (s.fetchHalf 0) (s.fetchHalf 1) (s.fetchHalf 2) (s.fetchHalf 3) = .ok i →
    step s = exec i { s.takeInput with halted := false, acceptPoint := true, tick := s.tick + 2 }

/-- In the same state, half-words that decode to no instruction are refused (the model's choice, log 17). -/
def Obligations.StepRefusesUndefined : Prop :=
  ∀ (s : State) (c : UndefinedClass), s.resetAsserted = false → s.takeInput.staysHalted = false →
    s.takeInput.accepted = none →
    decodeHalves (s.fetchHalf 0) (s.fetchHalf 1) (s.fetchHalf 2) (s.fetchHalf 3) = .error c →
    step s = .refused (.undefinedInstruction c)

/-- 60_exceptions.md R460, R461: the entry sequences of the interrupts, for every restored PC. -/
def Obligations.InterruptEntrySequences : Prop :=
  ∀ (s : State) (rpc : Word), isPc rpc →
    (∀ code : Half,
      let t := s.raise (.maskable code) rpc
      Enters s t .eipc .eipsw rpc [(.id, true), (.ep, false)] (code.setWidth 32 &&& 0x03FFFFFE#32) [.ecr] ∧
        t.ecr.extractLsb' 0 16 = code ∧ t.ecr.extractLsb' 16 16 = s.ecr.extractLsb' 16 16 ∧ EnvKept s t) ∧
    ∀ (input : NmiInput) (k : Nat), (input, k) ∈ [(NmiInput.nmi0, 0), (.nmi1, 1), (.nmi2, 2)] →
      let t := s.raise (.nmi input) rpc
      Enters s t .fepc .fepsw rpc [(.np, true), (.id, true), (.ep, false)] (BitVec.ofNat 32 (16 * (k + 1))) [.ecr] ∧
        t.ecr.extractLsb' 16 16 = BitVec.ofNat 16 (16 * (k + 1)) ∧ t.ecr.extractLsb' 0 16 = s.ecr.extractLsb' 0 16 ∧
        EnvKept s t

/-- The boundary at which a maskable interrupt is taken: an acceptance point with NP = 0, ID = 0 and no non-maskable request
(60_exceptions.md R445, R452); that a presented request is taken there is the spec's decision D21, the request lines are
the model's (log 9). Then the entry of R460, the request acknowledged, and the boundary that follows no acceptance point
(R448: one event at each; log 10, DEDUCED). -/
def Obligations.MaskableInterruptEntry : Prop :=
  ∀ (s : State) (code : Half), isPc s.pc → s.resetAsserted = false → s.acceptPoint = true →
    s.takeInput.requests = { nmi0 := false, nmi1 := false, nmi2 := false, int := some code } →
    s.flag .np = false → s.flag .id = false →
    ∃ t, step s = .next t ∧
      Enters s t .eipc .eipsw s.pc [(.id, true), (.ep, false)] (code.setWidth 32 &&& 0x03FFFFFE#32) [.ecr] ∧
      t.ecr.extractLsb' 0 16 = code ∧ t.ecr.extractLsb' 16 16 = s.ecr.extractLsb' 16 16 ∧
      t.requests = Requests.none ∧ t.halted = false ∧ t.acceptPoint = false ∧ t.host = s.host.tail ∧
      t.product = s.product ∧ t.hostAreas = s.hostAreas ∧ t.tick = s.tick

/-- The boundary at which a non-maskable interrupt is taken: NMI0 and NMI1 with NP = 0 (60_exceptions.md R456), NMI2 whatever
NP is (R458, the spec's decision D22), the higher number first and before a maskable request (R448, the decision D20), at
an acceptance point (R445, the decision D21). Then the entry of R461, the accepted request acknowledged (log 9) and every
other one still pending (R448), and the boundary that follows no acceptance point (R448; log 10, DEDUCED). And an input that
the product lacks is never requested, while the others are as the host drives them (R443, R449; log 9, log 40). -/
def Obligations.NonMaskableInterruptEntry : Prop :=
  (∀ (s : State) (k : Nat), isPc s.pc → s.resetAsserted = false → s.acceptPoint = true →
    ((k = 2 ∧ s.takeInput.requests.nmi2 = true) ∨
      (k = 1 ∧ s.takeInput.requests.nmi2 = false ∧ s.takeInput.requests.nmi1 = true ∧ s.flag .np = false) ∨
      (k = 0 ∧ s.takeInput.requests.nmi2 = false ∧ s.takeInput.requests.nmi1 = false ∧
        s.takeInput.requests.nmi0 = true ∧ s.flag .np = false)) →
    ∃ t, step s = .next t ∧
      Enters s t .fepc .fepsw s.pc [(.np, true), (.id, true), (.ep, false)] (BitVec.ofNat 32 (16 * (k + 1))) [.ecr] ∧
      t.ecr.extractLsb' 16 16 = BitVec.ofNat 16 (16 * (k + 1)) ∧ t.ecr.extractLsb' 0 16 = s.ecr.extractLsb' 0 16 ∧
      t.requests.nmi0 = (s.takeInput.requests.nmi0 && decide (k ≠ 0)) ∧
      t.requests.nmi1 = (s.takeInput.requests.nmi1 && decide (k ≠ 1)) ∧
      t.requests.nmi2 = (s.takeInput.requests.nmi2 && decide (k ≠ 2)) ∧
      t.requests.int = s.takeInput.requests.int ∧ t.halted = false ∧ t.acceptPoint = false ∧ t.host = s.host.tail ∧
      t.product = s.product ∧ t.hostAreas = s.hostAreas ∧ t.tick = s.tick) ∧
  ∀ s : State,
    let driven := (s.host.head?.bind HostInput.lines).getD s.requests
    s.takeInput.requests =
      { nmi0 := driven.nmi0 && decide (.nmi0 ∈ s.product.nmiInputs)
        nmi1 := driven.nmi1 && decide (.nmi1 ∈ s.product.nmiInputs)
        nmi2 := driven.nmi2 && decide (.nmi2 ∈ s.product.nmiInputs)
        int := driven.int }

/-- 60_exceptions.md R452, R456, 47_special.md R389: where no request may be accepted, none is: while the boundary is not an
acceptance point, or only maskable requests are pending and NP or ID is 1, or only NMI0, NMI1 and maskable requests are
pending and NP is 1. The next instruction runs and the requests stay pending. Which boundaries are no acceptance points is
the spec's decision D19 (log 10); that a halted state runs here is its decision D18 (log 13, PRESUMED). -/
def Obligations.RequestsHeld : Prop :=
  ∀ (s : State) (i : Instr), s.resetAsserted = false → s.takeInput.staysHalted = false →
    (s.acceptPoint = false ∨
      (s.takeInput.requests.nmi2 = false ∧ s.flag .np = true) ∨
      (s.takeInput.requests.nmi2 = false ∧ s.takeInput.requests.nmi1 = false ∧ s.takeInput.requests.nmi0 = false ∧
        s.flag .id = true)) →
    decodeHalves (s.fetchHalf 0) (s.fetchHalf 1) (s.fetchHalf 2) (s.fetchHalf 3) = .ok i →
    ∃ u, step s = exec i u ∧ u.requests = s.takeInput.requests ∧ RegsAre s u [] ∧ SysKept [] s u ∧ u.pc = s.pc ∧
      u.mem = s.mem

/-- 47_special.md R392: while halted with no request and no reset, a step changes nothing but the consumed host input; with a
request that PSW does not let in, HALT mode ends, the instruction at pc runs in a state with the same registers and memory and
the boundary after it is an acceptance point, and the request stays (the spec's decision D18; log 13, PRESUMED; log 9,
log 10). -/
def Obligations.HaltMode : Prop :=
  ∀ s : State, s.halted = true → s.resetAsserted = false →
    (s.takeInput.requests = Requests.none →
      step s = .next { s with host := s.host.tail, requests := Requests.none }) ∧
    (s.takeInput.requests ≠ Requests.none → s.takeInput.accepted = none → ∀ i,
      decodeHalves (s.fetchHalf 0) (s.fetchHalf 1) (s.fetchHalf 2) (s.fetchHalf 3) = .ok i →
      ∃ u, step s = exec i u ∧ u.halted = false ∧ u.requests = s.takeInput.requests ∧ u.pc = s.pc ∧
        RegsAre s u [] ∧ SysKept [] s u ∧ u.mem = s.mem ∧ u.host = s.host.tail ∧ u.acceptPoint = true ∧
        u.product = s.product ∧ u.hostAreas = s.hostAreas)

/-- 70_reset_and_hazards.md R500, R501: system reset at a boundary, halted or not: the registers whose reset value the manual
gives, HALT mode left, the boundary after it no acceptance point (R502). That memory stays is the model's choice (log 27). -/
def Obligations.SystemReset : Prop :=
  ∀ (s : State) (input : HostInput) (rest : List HostInput), s.host = input :: rest → input.reset = true →
    ∃ t, step s = .next t ∧ t.pc = 0#32 ∧ t.psw = 0x20#32 ∧ t.ecr = 0#32 ∧ t.dir = 0#32 ∧ t.reg 0 = 0#32 ∧
      t.halted = false ∧ t.acceptPoint = false ∧ t.mem = s.mem ∧ t.host = rest

/-- 10_state.md R70: the reset values that the manual gives, and the fixed-0 fields of the others. -/
def Obligations.ResetValues : Prop :=
  State.reset.pc = 0#32 ∧ State.reset.psw = 0x20#32 ∧ State.reset.ecr = 0#32 ∧ State.reset.dir = 0#32 ∧
  State.reset.reg 0 = 0#32 ∧ State.reset.halted = false ∧
  (∀ r ∈ [SysReg.eipc, .fepc, .ctpc, .dbpc], State.reset.sysReg r &&& 0xFC000000#32 = 0#32) ∧
  (∀ r ∈ [SysReg.eipsw, .fepsw, .ctpsw, .dbpsw], State.reset.sysReg r &&& 0xFFFFFF00#32 = 0#32) ∧
  State.reset.ctbp &&& 0xFC000001#32 = 0#32

/-- The invariant holds right after reset. -/
def Obligations.ResetInv : Prop := State.reset.Inv

/-- The invariant is kept by every step, from every state that has it. -/
def Obligations.StepKeepsInv : Prop := ∀ s t : State, s.Inv → step s = .next t → t.Inv

/-! ### Memory and registers -/

/-- Memory: a write keeps the canonical form, a read after a write gives the written byte at its address and the old byte
elsewhere, and canonical memories with the same bytes are the same list. -/
def Obligations.MemoryLaws : Prop :=
  (∀ (m : Memory) (a : Nat) (b : Byte), m.wf = true → a < 2 ^ 32 → (m.write a b).wf = true) ∧
  (∀ (m : Memory) (a x : Nat) (b : Byte), m.wf = true → (m.write a b).read x = if x = a then b else m.read x) ∧
  ∀ m n : Memory, m.wf = true → n.wf = true → (∀ a, m.read a = n.read a) → m = n

/-- 20_memory.md R94: the value of MemRead of 1, 2 and 4 bytes, each byte address modulo 2^32. -/
def Obligations.MemReadValue : Prop :=
  ∀ (s : State) (a : Word),
    (s.load1 a).toNat = (s.byteAt a).toNat ∧
    (s.load2 a).toNat = (s.byteAt a).toNat + 256 * (s.byteAt (BitVec.ofNat 32 (a.toNat + 1))).toNat ∧
    (s.load4 a).toNat = (s.byteAt a).toNat + 256 * (s.byteAt (BitVec.ofNat 32 (a.toNat + 1))).toNat +
      65536 * (s.byteAt (BitVec.ofNat 32 (a.toNat + 2))).toNat +
      16777216 * (s.byteAt (BitVec.ofNat 32 (a.toNat + 3))).toNat

/-- A load reads what a store wrote, aligned or not, across the end of the address space too, in RAM. In ROM and in the host
areas a store leaves every byte of memory, and a load of a ROM byte reads its cell (the model's choice where the spec leaves
the store to the host, log 2, log 3). The peripheral I/O area is the host's, internal ROM and internal RAM stand where
20_memory.md R108 puts them (00_scope.md R11). -/
def Obligations.LoadAfterStore : Prop :=
  (∀ (s : State) (a : Word), s.mem.wf = true → (∀ k, k < 4 → s.inRam (a + BitVec.ofNat 32 k) = true) →
    (∀ v, (s.store1 a v).load1 a = v) ∧ (∀ v, (s.store2 a v).load2 a = v) ∧ ∀ v, (s.store4 a v).load4 a = v) ∧
  (∀ (s : State) (a : Word) (v : Byte), s.inRam a = false → s.store1 a v = s ∧
    (s.inHostArea a = false → s.load1 a = s.mem.read a.toNat)) ∧
  ∀ (s : State) (a : Word),
    (0x03FFF000 ≤ a.toNat ∧ a.toNat ≤ 0x03FFFFFF → s.inHostArea a = true) ∧
    (s.hostAreas = [] → a.toNat < s.product.iromSize → a.toNat < 0x01000000 →
      s.inHostArea a = false ∧ s.inRam a = false) ∧
    (s.hostAreas = [] → s.product.iramSize ≤ 0xF000 → 0x03FFF000 ≤ a.toNat + s.product.iramSize →
      a.toNat < 0x03FFF000 → s.inRam a = true)

/-- 10_state.md R31: r0 reads 0, a write to it is lost, and a write to another register writes that register only. -/
def Obligations.ZeroRegister : Prop :=
  ∀ (s : State) (v : Word), s.reg 0 = 0#32 ∧ s.setReg 0 v = s ∧
    ∀ r : RegNum, r ≠ 0 → ∀ q, (s.setReg r v).reg q = if q = r then v else s.reg q

/-- 10_state.md R52: the condition of every condition code. -/
def Obligations.ConditionTable : Prop :=
  ∀ s : State,
    s.cond (Cond.ofCode 0b0000) = s.flag .ov ∧ s.cond (Cond.ofCode 0b0001) = s.flag .cy ∧
    s.cond (Cond.ofCode 0b0010) = s.flag .z ∧ s.cond (Cond.ofCode 0b0011) = (s.flag .cy || s.flag .z) ∧
    s.cond (Cond.ofCode 0b0100) = s.flag .s ∧ s.cond (Cond.ofCode 0b0101) = true ∧
    s.cond (Cond.ofCode 0b0110) = (s.flag .s != s.flag .ov) ∧
    s.cond (Cond.ofCode 0b0111) = ((s.flag .s != s.flag .ov) || s.flag .z) ∧
    s.cond (Cond.ofCode 0b1000) = !s.flag .ov ∧ s.cond (Cond.ofCode 0b1001) = !s.flag .cy ∧
    s.cond (Cond.ofCode 0b1010) = !s.flag .z ∧ s.cond (Cond.ofCode 0b1011) = !(s.flag .cy || s.flag .z) ∧
    s.cond (Cond.ofCode 0b1100) = !s.flag .s ∧ s.cond (Cond.ofCode 0b1101) = s.flag .sat ∧
    s.cond (Cond.ofCode 0b1110) = !(s.flag .s != s.flag .ov) ∧
    s.cond (Cond.ofCode 0b1111) = !((s.flag .s != s.flag .ov) || s.flag .z)

/-- 00_scope.md R21: add and sub with their flags, the overflow in its two equivalent forms. -/
def Obligations.FlagHelpers : Prop :=
  ∀ a b : Word,
    ((addFlags a b).result = a + b ∧
      ((addFlags a b).cy = true ↔ a.toNat + b.toNat ≥ 2 ^ 32) ∧
      ((addFlags a b).ov = true ↔ ¬(-2 ^ 31 ≤ a.toInt + b.toInt ∧ a.toInt + b.toInt ≤ 2 ^ 31 - 1)) ∧
      ((addFlags a b).ov = true ↔ a.getLsbD 31 = b.getLsbD 31 ∧ (a + b).getLsbD 31 ≠ a.getLsbD 31) ∧
      (addFlags a b).s = (a + b).getLsbD 31 ∧ ((addFlags a b).z = true ↔ a + b = 0#32)) ∧
    ((subFlags a b).result = a - b ∧
      ((subFlags a b).cy = true ↔ a.toNat < b.toNat) ∧
      ((subFlags a b).ov = true ↔ ¬(-2 ^ 31 ≤ a.toInt - b.toInt ∧ a.toInt - b.toInt ≤ 2 ^ 31 - 1)) ∧
      ((subFlags a b).ov = true ↔ a.getLsbD 31 ≠ b.getLsbD 31 ∧ (a - b).getLsbD 31 ≠ a.getLsbD 31) ∧
      (subFlags a b).s = (a - b).getLsbD 31 ∧ ((subFlags a b).z = true ↔ a - b = 0#32))

/-! ### Rules over all instructions -/

/-- Every instruction completes, in every state, but for the operands whose operation the manual does not guarantee. -/
def Obligations.EveryInstructionCompletes : Prop :=
  ∀ (i : Instr) (s : State), ¬notGuaranteed i → ∃ t, exec i s = .next t

/-- 93_implementation_defined.md U3, U4, U5: those operands are refused by name, in every state. -/
def Obligations.NotGuaranteedRefused : Prop :=
  ∀ s : State,
    (∀ (reg2 : RegNum) (n : BitVec 5), (6 ≤ n.toNat ∧ n.toNat ≤ 15) ∨ 22 ≤ n.toNat →
      exec (.ldsr reg2 n) s = .refused (.reservedSystemRegister n) ∧
      exec (.stsr n reg2) s = .refused (.reservedSystemRegister n)) ∧
    (∀ (reg2 : RegNum) (n : BitVec 5), n.toNat = 4 ∨ n.toNat = 21 →
      exec (.ldsr reg2 n) s = .refused (.writeProhibitedSystemRegister n)) ∧
    ∀ reg1 reg2 reg3 : RegNum, reg1 = reg3 ∧ reg1 ≠ reg2 ∧ reg1 ≠ 0 ∧ reg3 ≠ 0 →
      exec (.mulReg reg1 reg2 reg3) s = .refused (.multiplyRegisterCombination reg1 reg2 reg3) ∧
      exec (.muluReg reg1 reg2 reg3) s = .refused (.multiplyRegisterCombination reg1 reg2 reg3)

/-- 10_state.md R54: no instruction changes a flag that the table does not give it, nor the reserved bits of PSW when they are
0. -/
def Obligations.FlagWriters : Prop :=
  ∀ (i : Instr) (s t : State), exec i s = .next t →
    (∀ b, b ∉ flagsWritten i → t.flag b = s.flag b) ∧
    (s.psw &&& 0xFFFFFF00#32 = 0#32 → t.psw &&& 0xFFFFFF00#32 = 0#32)

/-- 47_special.md R380 (a): no instruction changes a system register, PSW apart, but those the manual says. So no instruction
but TRAP writes ECR, and only DBTRAP, the illegal instruction and DBRET write DIR (10_state.md R42, R49). -/
def Obligations.SystemRegisterWriters : Prop :=
  ∀ (i : Instr) (s t : State), exec i s = .next t → SysKept (.psw :: sysRegsWritten i) s t

/-- 43_saturated.md R297: SAT is cumulative: only LDSR to PSW and the returns can clear it. -/
def Obligations.SatIsCumulative : Prop :=
  ∀ (i : Instr) (s t : State), exec i s = .next t → s.flag .sat = true → t.flag .sat = false →
    (∃ reg2, i = .ldsr reg2 5) ∨ i = .reti ∨ i = .ctret ∨ i = .dbret

/-- An instruction that stores nothing leaves every byte of memory. -/
def Obligations.MemoryWriters : Prop :=
  ∀ (i : Instr) (s t : State), exec i s = .next t → ¬storesToMemory i → MemKept s t

/-- Only HALT enters HALT mode, and no instruction touches the request lines or what lies outside the core. -/
def Obligations.EnvironmentKept : Prop :=
  ∀ (i : Instr) (s t : State), exec i s = .next t →
    (i ≠ .halt → t.halted = s.halted) ∧ t.requests = s.requests ∧ t.host = s.host ∧ t.product = s.product ∧
      t.hostAreas = s.hostAreas ∧ t.tick = s.tick

/-! ### Load and store -/

/-- Loads: the operand address, the extension, the destination, and nothing else changed (40_load_store.md R200 to R214). -/
def Obligations.LoadForms : Prop :=
  ∀ (s : State) (reg1 reg2 : RegNum) (disp16 : Half) (disp4 : BitVec 4) (disp5 : BitVec 5) (disp7 : BitVec 7)
    (disp8 : BitVec 8),
    let long := s.reg reg1 + disp16.signExtend 32
    let short (d : Word) := s.reg 30 + d
    Completes (.ldB disp16 reg1 reg2) s [(reg2, (s.load1 long).signExtend 32)] [] (s.nextPc 4) ∧
    Completes (.ldBu disp16 reg1 reg2) s [(reg2, (s.load1 long).zeroExtend 32)] [] (s.nextPc 4) ∧
    Completes (.ldH disp16 reg1 reg2) s [(reg2, (s.load2 long).signExtend 32)] [] (s.nextPc 4) ∧
    Completes (.ldHu disp16 reg1 reg2) s [(reg2, (s.load2 long).zeroExtend 32)] [] (s.nextPc 4) ∧
    Completes (.ldW disp16 reg1 reg2) s [(reg2, s.load4 long)] [] (s.nextPc 4) ∧
    Completes (.sldB disp7 reg2) s [(reg2, (s.load1 (short (disp7.zeroExtend 32))).signExtend 32)] [] (s.nextPc 2) ∧
    Completes (.sldBu disp4 reg2) s [(reg2, (s.load1 (short (disp4.zeroExtend 32))).zeroExtend 32)] [] (s.nextPc 2) ∧
    Completes (.sldH disp8 reg2) s [(reg2, (s.load2 (short (disp8.zeroExtend 32))).signExtend 32)] [] (s.nextPc 2) ∧
    Completes (.sldHu disp5 reg2) s [(reg2, (s.load2 (short (disp5.zeroExtend 32))).zeroExtend 32)] [] (s.nextPc 2) ∧
    Completes (.sldW disp8 reg2) s [(reg2, s.load4 (short (disp8.zeroExtend 32)))] [] (s.nextPc 2)

/-- Stores: the operand address, the stored bytes, every other byte of memory and everything else unchanged
(40_load_store.md R200 to R202, R215 to R220). -/
def Obligations.StoreForms : Prop :=
  ∀ (s : State) (reg1 reg2 : RegNum) (disp16 : Half) (disp7 : BitVec 7) (disp8 : BitVec 8), s.mem.wf = true →
    let long := s.reg reg1 + disp16.signExtend 32
    let short (d : Word) := s.reg 30 + d
    let v := s.reg reg2
    CompletesStore (.stB reg2 disp16 reg1) s long ((wordBytes v).take 1) [] [] (s.nextPc 4) ∧
    CompletesStore (.stH reg2 disp16 reg1) s long ((wordBytes v).take 2) [] [] (s.nextPc 4) ∧
    CompletesStore (.stW reg2 disp16 reg1) s long (wordBytes v) [] [] (s.nextPc 4) ∧
    CompletesStore (.sstB reg2 disp7) s (short (disp7.zeroExtend 32)) ((wordBytes v).take 1) [] [] (s.nextPc 2) ∧
    CompletesStore (.sstH reg2 disp8) s (short (disp8.zeroExtend 32)) ((wordBytes v).take 2) [] [] (s.nextPc 2) ∧
    CompletesStore (.sstW reg2 disp8) s (short (disp8.zeroExtend 32)) (wordBytes v) [] [] (s.nextPc 2)

/-! ### Multiply -/

/-- MUL and MULU: the exact product, its low word to reg2 and then its high word to reg3 (41_multiply.md R231 to R235), for
the operands that R239 does not exclude. -/
def Obligations.MultiplyForms : Prop :=
  ∀ (s : State) (reg1 reg2 reg3 : RegNum) (imm9 : BitVec 9),
    let p := (s.reg reg2).toInt * (s.reg reg1).toInt
    let u := (s.reg reg2).toNat * (s.reg reg1).toNat
    let p9 := (s.reg reg2).toInt * imm9.toInt
    let u9 := (s.reg reg2).toNat * imm9.toNat
    (¬(reg1 = reg3 ∧ reg1 ≠ reg2 ∧ reg1 ≠ 0 ∧ reg3 ≠ 0) →
      Completes (.mulReg reg1 reg2 reg3) s [(reg3, BitVec.ofInt 32 (p / 2 ^ 32)), (reg2, BitVec.ofInt 32 p)] []
        (s.nextPc 4) ∧
      Completes (.muluReg reg1 reg2 reg3) s [(reg3, BitVec.ofNat 32 (u / 2 ^ 32)), (reg2, BitVec.ofNat 32 u)] []
        (s.nextPc 4)) ∧
    Completes (.mulImm9 imm9 reg2 reg3) s [(reg3, BitVec.ofInt 32 (p9 / 2 ^ 32)), (reg2, BitVec.ofInt 32 p9)] []
      (s.nextPc 4) ∧
    Completes (.muluImm9 imm9 reg2 reg3) s [(reg3, BitVec.ofNat 32 (u9 / 2 ^ 32)), (reg2, BitVec.ofNat 32 u9)] []
      (s.nextPc 4)

/-- MULH and MULHI: the signed product of two half-words, the upper half-words ignored (41_multiply.md R231, R236 to
R238). -/
def Obligations.HalfMultiplyForms : Prop :=
  ∀ (s : State) (reg1 reg2 : RegNum) (imm5 : BitVec 5) (imm16 : Half),
    let low (r : RegNum) : Word := ((s.reg r).extractLsb' 0 16).signExtend 32
    Completes (.mulhReg reg1 reg2) s [(reg2, low reg2 * low reg1)] [] (s.nextPc 2) ∧
    Completes (.mulhImm5 imm5 reg2) s [(reg2, low reg2 * imm5.signExtend 32)] [] (s.nextPc 2) ∧
    Completes (.mulhi imm16 reg1 reg2) s [(reg2, low reg1 * imm16.signExtend 32)] [] (s.nextPc 4)

/-! ### Arithmetic -/

/-- ADD, ADDI, SUB, SUBR: the result and the flags of R21 (42_arithmetic.md R246 to R248, R256, R257). -/
def Obligations.AddSubForms : Prop :=
  ∀ (s : State) (reg1 reg2 : RegNum) (imm5 : BitVec 5) (imm16 : Half),
    let a := s.reg reg1
    let b := s.reg reg2
    Completes (.addReg reg1 reg2) s [(reg2, b + a)] (addWrites b a) (s.nextPc 2) ∧
    Completes (.addImm5 imm5 reg2) s [(reg2, b + imm5.signExtend 32)] (addWrites b (imm5.signExtend 32)) (s.nextPc 2) ∧
    Completes (.addi imm16 reg1 reg2) s [(reg2, a + imm16.signExtend 32)] (addWrites a (imm16.signExtend 32))
      (s.nextPc 4) ∧
    Completes (.sub reg1 reg2) s [(reg2, b - a)] (subWrites b a) (s.nextPc 2) ∧
    Completes (.subr reg1 reg2) s [(reg2, a - b)] (subWrites a b) (s.nextPc 2)

/-- CMP: the flags of the subtraction, no register changed (42_arithmetic.md R249, R250); after it the signed and unsigned
comparisons are what the conditions say (45_branch.md R342). -/
def Obligations.CompareForms : Prop :=
  ∀ (s : State) (reg1 reg2 : RegNum) (imm5 : BitVec 5),
    Completes (.cmpReg reg1 reg2) s [] (subWrites (s.reg reg2) (s.reg reg1)) (s.nextPc 2) ∧
    Completes (.cmpImm5 imm5 reg2) s [] (subWrites (s.reg reg2) (imm5.signExtend 32)) (s.nextPc 2) ∧
    ∀ t, exec (.cmpReg reg1 reg2) s = .next t →
      (t.cond .lt = true ↔ (s.reg reg2).toInt < (s.reg reg1).toInt) ∧
      (t.cond .gt = true ↔ (s.reg reg2).toInt > (s.reg reg1).toInt) ∧
      (t.cond .c = true ↔ (s.reg reg2).toNat < (s.reg reg1).toNat) ∧
      (t.cond .h = true ↔ (s.reg reg2).toNat > (s.reg reg1).toNat) ∧
      (t.cond .z = true ↔ s.reg reg2 = s.reg reg1)

/-- MOV, MOVEA, MOVHI, NOP: the value moved, no flag changed (42_arithmetic.md R251 to R255, 47_special.md R396). -/
def Obligations.MoveForms : Prop :=
  ∀ (s : State) (reg1 reg2 : RegNum) (imm5 : BitVec 5) (imm16 : Half) (imm32 : Word),
    Completes (.movReg reg1 reg2) s [(reg2, s.reg reg1)] [] (s.nextPc 2) ∧
    Completes (.movImm5 imm5 reg2) s [(reg2, imm5.signExtend 32)] [] (s.nextPc 2) ∧
    Completes (.movImm32 imm32 reg1) s [(reg1, imm32)] [] (s.nextPc 6) ∧
    Completes (.movea imm16 reg1 reg2) s [(reg2, s.reg reg1 + imm16.signExtend 32)] [] (s.nextPc 4) ∧
    Completes (.movhi imm16 reg1 reg2) s [(reg2, s.reg reg1 + BitVec.ofNat 32 (65536 * imm16.toNat))] [] (s.nextPc 4) ∧
    Completes .nop s [] [] (s.nextPc 2)

/-- SETF, SASF, CMOV: the value by the condition, no flag changed (42_arithmetic.md R258, R259, R266, R267). -/
def Obligations.ConditionForms : Prop :=
  ∀ (s : State) (cond : Cond) (reg1 reg2 reg3 : RegNum) (imm5 : BitVec 5),
    let bit : Nat := if s.cond cond then 1 else 0
    Completes (.setf cond reg2) s [(reg2, BitVec.ofNat 32 bit)] [] (s.nextPc 4) ∧
    Completes (.sasf cond reg2) s [(reg2, BitVec.ofNat 32 (2 * (s.reg reg2).toNat + bit))] [] (s.nextPc 4) ∧
    Completes (.cmovReg cond reg1 reg2 reg3) s [(reg3, if s.cond cond then s.reg reg1 else s.reg reg2)] [] (s.nextPc 4) ∧
    Completes (.cmovImm5 cond imm5 reg2 reg3) s [(reg3, if s.cond cond then imm5.signExtend 32 else s.reg reg2)] []
      (s.nextPc 4)

/-- DIV and DIVH by a divisor b other than 0: the one overflow (42_arithmetic.md R260 (c)); otherwise the quotient q and the
remainder r with a = q b + r, |r| < |b| and r of the sign of a (the spec's decision D10), S and Z of the quotient (D13), CY
and SAT unchanged, the quotient written first. -/
def Obligations.SignedDivision : Prop :=
  ∀ (s : State) (reg1 reg2 reg3 : RegNum),
    let a := (s.reg reg2).toInt
    let word := (s.reg reg1).toInt
    let half := ((s.reg reg1).extractLsb' 0 16).toInt
    let exact (b q r : Int) := a = q * b + r ∧ |r| < |b| ∧ 0 ≤ r * a
    let flags (q : Int) : List (PswBit × Bool) := [(.ov, false), (.s, decide (q < 0)), (.z, decide (q = 0))]
    let top : List (PswBit × Bool) := [(.ov, true), (.s, true), (.z, false)]
    (word ≠ 0 → ¬(a = -2 ^ 31 ∧ word = -1) → ∃ q r, exact word q r ∧
      Completes (.div reg1 reg2 reg3) s [(reg3, BitVec.ofInt 32 r), (reg2, BitVec.ofInt 32 q)] (flags q)
        (s.nextPc 4)) ∧
    (a = -2 ^ 31 ∧ word = -1 →
      Completes (.div reg1 reg2 reg3) s [(reg3, 0#32), (reg2, 0x80000000#32)] top (s.nextPc 4)) ∧
    (half ≠ 0 → ¬(a = -2 ^ 31 ∧ half = -1) → ∃ q r, exact half q r ∧
      Completes (.divhReg3 reg1 reg2 reg3) s [(reg3, BitVec.ofInt 32 r), (reg2, BitVec.ofInt 32 q)] (flags q)
        (s.nextPc 4) ∧
      Completes (.divhReg reg1 reg2) s [(reg2, BitVec.ofInt 32 q)] (flags q) (s.nextPc 2)) ∧
    (a = -2 ^ 31 ∧ half = -1 →
      Completes (.divhReg3 reg1 reg2 reg3) s [(reg3, 0#32), (reg2, 0x80000000#32)] top (s.nextPc 4) ∧
      Completes (.divhReg reg1 reg2) s [(reg2, 0x80000000#32)] top (s.nextPc 2))

/-- DIVU and DIVHU by a divisor b other than 0: the quotient q and the remainder r with a = q b + r and r < b; S is bit 31 of
the quotient (42_arithmetic.md R260, R264, R265; S and Z by the spec's decision D13). -/
def Obligations.UnsignedDivision : Prop :=
  ∀ (s : State) (reg1 reg2 reg3 : RegNum),
    let a := (s.reg reg2).toNat
    let word := (s.reg reg1).toNat
    let half := ((s.reg reg1).extractLsb' 0 16).toNat
    let flags (q : Nat) : List (PswBit × Bool) := [(.ov, false), (.s, decide (q ≥ 2 ^ 31)), (.z, decide (q = 0))]
    (word ≠ 0 → ∃ q r, a = q * word + r ∧ r < word ∧
      Completes (.divu reg1 reg2 reg3) s [(reg3, BitVec.ofNat 32 r), (reg2, BitVec.ofNat 32 q)] (flags q)
        (s.nextPc 4)) ∧
    (half ≠ 0 → ∃ q r, a = q * half + r ∧ r < half ∧
      Completes (.divhu reg1 reg2 reg3) s [(reg3, BitVec.ofNat 32 r), (reg2, BitVec.ofNat 32 q)] (flags q)
        (s.nextPc 4))

/-- 42_arithmetic.md R260 (d): a division by zero completes with OV = 1, CY and SAT unchanged; the quotient, the remainder, S
and Z are free values. -/
def Obligations.DivisionByZero : Prop :=
  ∀ (s : State) (reg1 reg2 reg3 : RegNum),
    let flags (n z : Bool) : List (PswBit × Bool) := [(.ov, true), (.s, n), (.z, z)]
    (s.reg reg1 = 0#32 →
      (∃ q r n z, Completes (.div reg1 reg2 reg3) s [(reg3, r), (reg2, q)] (flags n z) (s.nextPc 4)) ∧
      ∃ q r n z, Completes (.divu reg1 reg2 reg3) s [(reg3, r), (reg2, q)] (flags n z) (s.nextPc 4)) ∧
    ((s.reg reg1).extractLsb' 0 16 = 0#16 →
      (∃ q r n z, Completes (.divhReg3 reg1 reg2 reg3) s [(reg3, r), (reg2, q)] (flags n z) (s.nextPc 4)) ∧
      (∃ q r n z, Completes (.divhu reg1 reg2 reg3) s [(reg3, r), (reg2, q)] (flags n z) (s.nextPc 4)) ∧
      ∃ q n z, Completes (.divhReg reg1 reg2) s [(reg2, q)] (flags n z) (s.nextPc 2))

/-! ### Saturated -/

/-- SATADD, SATSUB, SATSUBI, SATSUBR: the exact sum or difference brought into range, S and Z of the saturated result, CY of
the plain operation, SAT set on overflow and never cleared (43_saturated.md R290 to R297). -/
def Obligations.SaturatedForms : Prop :=
  ∀ (s : State) (reg1 reg2 : RegNum) (imm5 : BitVec 5) (imm16 : Half),
    let a := s.reg reg1
    let b := s.reg reg2
    let add (x y : Word) := x.toInt + y.toInt
    let sub (x y : Word) := x.toInt - y.toInt
    let carry (x y : Word) := decide (x.toNat + y.toNat ≥ 2 ^ 32)
    let borrow (x y : Word) := decide (x.toNat < y.toNat)
    let i5 : Word := imm5.signExtend 32
    let i16 : Word := imm16.signExtend 32
    Completes (.sataddReg reg1 reg2) s [(reg2, BitVec.ofInt 32 (clamp (add b a)))] (s.satWrites (add b a) (carry b a))
      (s.nextPc 2) ∧
    Completes (.sataddImm5 imm5 reg2) s [(reg2, BitVec.ofInt 32 (clamp (add b i5)))]
      (s.satWrites (add b i5) (carry b i5)) (s.nextPc 2) ∧
    Completes (.satsub reg1 reg2) s [(reg2, BitVec.ofInt 32 (clamp (sub b a)))] (s.satWrites (sub b a) (borrow b a))
      (s.nextPc 2) ∧
    Completes (.satsubi imm16 reg1 reg2) s [(reg2, BitVec.ofInt 32 (clamp (sub a i16)))]
      (s.satWrites (sub a i16) (borrow a i16)) (s.nextPc 4) ∧
    Completes (.satsubr reg1 reg2) s [(reg2, BitVec.ofInt 32 (clamp (sub a b)))] (s.satWrites (sub a b) (borrow a b))
      (s.nextPc 2)

/-! ### Logical -/

/-- 44_logical.md R301: AND, ANDI, NOT, OR, ORI, XOR, XORI, TST: the result and logic_flags, CY and SAT unchanged. -/
def Obligations.BitwiseForms : Prop :=
  ∀ (s : State) (reg1 reg2 : RegNum) (imm16 : Half),
    let a := s.reg reg1
    let b := s.reg reg2
    let i : Word := imm16.zeroExtend 32
    let result (instr : Instr) (res : Word) (pc : Word) := Completes instr s [(reg2, res)] (logicWrites res) pc
    result (.andReg reg1 reg2) (b &&& a) (s.nextPc 2) ∧ result (.andi imm16 reg1 reg2) (a &&& i) (s.nextPc 4) ∧
    result (.orReg reg1 reg2) (b ||| a) (s.nextPc 2) ∧ result (.ori imm16 reg1 reg2) (a ||| i) (s.nextPc 4) ∧
    result (.xorReg reg1 reg2) (b ^^^ a) (s.nextPc 2) ∧ result (.xori imm16 reg1 reg2) (a ^^^ i) (s.nextPc 4) ∧
    result (.notReg reg1 reg2) (~~~a) (s.nextPc 2) ∧
    Completes (.tst reg1 reg2) s [] (logicWrites (b &&& a)) (s.nextPc 2)

/-- SAR, SHL, SHR: the value by exact arithmetic, CY the last bit shifted out, 0 for a count of 0 (44_logical.md R310 to
R315, R319). -/
def Obligations.ShiftForms : Prop :=
  ∀ (s : State) (reg1 reg2 : RegNum) (imm5 : BitVec 5),
    let v := s.reg reg2
    let count := ((s.reg reg1).extractLsb' 0 5).toNat
    let sar (n : Nat) := BitVec.ofInt 32 (v.toInt / 2 ^ n)
    let shl (n : Nat) := BitVec.ofNat 32 (v.toNat * 2 ^ n)
    let shr (n : Nat) := BitVec.ofNat 32 (v.toNat / 2 ^ n)
    let outRight (n : Nat) := if n = 0 then false else v.getLsbD (n - 1)
    let outLeft (n : Nat) := if n = 0 then false else v.getLsbD (32 - n)
    let result (i : Instr) (res : Word) (out : Bool) (pc : Word) := Completes i s [(reg2, res)] (shiftWrites res out) pc
    result (.sarReg reg1 reg2) (sar count) (outRight count) (s.nextPc 4) ∧
    result (.sarImm5 imm5 reg2) (sar imm5.toNat) (outRight imm5.toNat) (s.nextPc 2) ∧
    result (.shlReg reg1 reg2) (shl count) (outLeft count) (s.nextPc 4) ∧
    result (.shlImm5 imm5 reg2) (shl imm5.toNat) (outLeft imm5.toNat) (s.nextPc 2) ∧
    result (.shrReg reg1 reg2) (shr count) (outRight count) (s.nextPc 4) ∧
    result (.shrImm5 imm5 reg2) (shr imm5.toNat) (outRight imm5.toNat) (s.nextPc 2)

/-- BSH, BSW, HSW: each byte of the result, CY on a zero byte or half-word, Z (44_logical.md R316 to R318). -/
def Obligations.SwapForms : Prop :=
  ∀ (s : State) (reg2 reg3 : RegNum),
    let v := s.reg reg2
    let byte (w : Word) (k : Nat) : Byte := w.extractLsb' (8 * k) 8
    let half (w : Word) (k : Nat) : Half := w.extractLsb' (16 * k) 16
    let bsh : Word := byte v 2 ++ byte v 3 ++ byte v 0 ++ byte v 1
    let bsw : Word := byte v 0 ++ byte v 1 ++ byte v 2 ++ byte v 3
    let hsw : Word := half v 0 ++ half v 1
    Completes (.bsh reg2 reg3) s [(reg3, bsh)]
      [(.cy, decide (byte bsh 0 = 0 ∨ byte bsh 1 = 0)), (.ov, false), (.s, bsh.getLsbD 31),
        (.z, decide (half bsh 0 = 0))] (s.nextPc 4) ∧
    Completes (.bsw reg2 reg3) s [(reg3, bsw)]
      (shiftWrites bsw (decide (∃ k : Fin 4, byte v k.val = 0))) (s.nextPc 4) ∧
    Completes (.hsw reg2 reg3) s [(reg3, hsw)]
      (shiftWrites hsw (decide (half v 0 = 0 ∨ half v 1 = 0))) (s.nextPc 4)

/-- SXB, SXH, ZXB, ZXH: the extension in place, no flag changed (44_logical.md R320 to R324). -/
def Obligations.ExtensionForms : Prop :=
  ∀ (s : State) (reg1 : RegNum),
    let v := s.reg reg1
    Completes (.sxb reg1) s [(reg1, BitVec.ofInt 32 (v.extractLsb' 0 8).toInt)] [] (s.nextPc 2) ∧
    Completes (.sxh reg1) s [(reg1, BitVec.ofInt 32 (v.extractLsb' 0 16).toInt)] [] (s.nextPc 2) ∧
    Completes (.zxb reg1) s [(reg1, v &&& 0x000000FF#32)] [] (s.nextPc 2) ∧
    Completes (.zxh reg1) s [(reg1, v &&& 0x0000FFFF#32)] [] (s.nextPc 2)

/-! ### Branch -/

/-- Bcond, JARL, JR, JMP: the target modulo 2^26 and even, the link, nothing else changed (45_branch.md R341 to R346,
10_state.md R35). -/
def Obligations.BranchForms : Prop :=
  ∀ (s : State) (cond : Cond) (reg1 reg2 : RegNum) (disp9 : BitVec 9) (disp22 : BitVec 22),
    let target (d : Word) := (s.pc + d) &&& 0x03FFFFFE#32
    Completes (.bcond cond disp9) s [] [] (if s.cond cond then target (disp9.signExtend 32) else s.nextPc 2) ∧
    Completes (.jarl disp22 reg2) s [(reg2, s.nextPc 4)] [] (target (disp22.signExtend 32)) ∧
    Completes (.jr disp22) s [] [] (target (disp22.signExtend 32)) ∧
    Completes (.jmp reg1) s [] [] (s.reg reg1 &&& 0x03FFFFFE#32)

/-! ### Bit manipulation -/

/-- SET1, CLR1, NOT1: Z from the bit before, the one bit changed, one byte stored (46_bit_manipulation.md R360 to R367). -/
def Obligations.BitForms : Prop :=
  ∀ (s : State) (reg1 reg2 : RegNum) (bit3 : BitVec 3) (disp16 : Half), s.mem.wf = true →
    let long := s.reg reg1 + disp16.signExtend 32
    let n := ((s.reg reg2).extractLsb' 0 3).toNat
    let changed (a : Word) (n : Nat) (v : Bool) : Byte :=
      BitVec.ofFnLE fun j : Fin 8 => if j.val = n then v else (s.load1 a).getLsbD j.val
    let result (i : Instr) (a : Word) (n : Nat) (v : Bool) :=
      CompletesStore i s a [changed a n v] [] [(.z, !(s.load1 a).getLsbD n)] (s.nextPc 4)
    result (.set1Disp bit3 disp16 reg1) long bit3.toNat true ∧ result (.set1Reg reg2 reg1) (s.reg reg1) n true ∧
    result (.clr1Disp bit3 disp16 reg1) long bit3.toNat false ∧ result (.clr1Reg reg2 reg1) (s.reg reg1) n false ∧
    result (.not1Disp bit3 disp16 reg1) long bit3.toNat (!(s.load1 long).getLsbD bit3.toNat) ∧
    result (.not1Reg reg2 reg1) (s.reg reg1) n (!(s.load1 (s.reg reg1)).getLsbD n)

/-- TST1: Z from the bit, memory unchanged (46_bit_manipulation.md R361, R368, R369). -/
def Obligations.BitTestForms : Prop :=
  ∀ (s : State) (reg1 reg2 : RegNum) (bit3 : BitVec 3) (disp16 : Half),
    Completes (.tst1Disp bit3 disp16 reg1) s []
      [(.z, !(s.load1 (s.reg reg1 + disp16.signExtend 32)).getLsbD bit3.toNat)] (s.nextPc 4) ∧
    Completes (.tst1Reg reg2 reg1) s []
      [(.z, !(s.load1 (s.reg reg1)).getLsbD ((s.reg reg2).extractLsb' 0 3).toNat)] (s.nextPc 4)

/-! ### Special and debug -/

/-- 60_exceptions.md R462: the entry of the software exception, by TRAP. -/
def Obligations.TrapEntry : Prop :=
  ∀ (s : State) (vector : BitVec 5),
    ∃ t, exec (.trap vector) s = .next t ∧
      Enters s t .eipc .eipsw (s.nextPc 4) [(.ep, true), (.id, true)]
        (if vector.toNat < 16 then 0x00000040#32 else 0x00000050#32) [.ecr] ∧
      t.ecr.extractLsb' 0 16 = BitVec.ofNat 16 (0x40 + vector.toNat) ∧
      t.ecr.extractLsb' 16 16 = s.ecr.extractLsb' 16 16 ∧ EnvKept s t ∧ t.acceptPoint = s.acceptPoint

/-- 60_exceptions.md R463, R464: the entries of the exception trap, by an illegal instruction code whatever its other bits,
and of the debug trap, by DBTRAP. That ECR is not written is R465's resolution of a conflict (90_conflicts.md C14, log 36). -/
def Obligations.DebugEntries : Prop :=
  ∀ s : State,
    let entry (i : Instr) (len : Nat) : Prop := ∃ t, exec i s = .next t ∧
      Enters s t .dbpc .dbpsw (s.nextPc len) [(.np, true), (.ep, true), (.id, true)] 0x00000060#32 [.dir] ∧
      t.dir = 1#32 ∧ EnvKept s t ∧ t.acceptPoint = s.acceptPoint
    entry .dbtrap 2 ∧ (∀ a b c d, entry (.illegal0111 a b c d) 4) ∧ ∀ a b c d e, entry (.illegal1xxx a b c d e) 4

/-- RETI by EP and NP, CTRET, DBRET: PC and the whole PSW restored (47_special.md R406, R384, 48_debug.md R432). -/
def Obligations.ReturnForms : Prop :=
  ∀ s : State,
    (∃ t, exec .reti s = .next t ∧
      if s.flag .ep = false ∧ s.flag .np = true then Returns s t .fepc .fepsw [] else Returns s t .eipc .eipsw []) ∧
    (∃ t, exec .ctret s = .next t ∧ Returns s t .ctpc .ctpsw []) ∧
    ∃ t, exec .dbret s = .next t ∧ Returns s t .dbpc .dbpsw [.dir] ∧ t.dir = 0#32

/-- DI, EI: ID only, and the boundary after them is not an acceptance point (47_special.md R386 to R389). HALT: pc first, then
HALT mode (R392). -/
def Obligations.InterruptControlForms : Prop :=
  ∀ s : State,
    let only (t : State) (flags : List (PswBit × Bool)) : Prop := RegsAre s t [] ∧ FlagsAre s t flags ∧
      t.pc = s.nextPc 4 ∧ SysKept [.psw] s t ∧ MemKept s t
    (∃ t, exec .di s = .next t ∧ only t [(.id, true)] ∧ EnvKept s t ∧ t.acceptPoint = false) ∧
    (∃ t, exec .ei s = .next t ∧ only t [(.id, false)] ∧ EnvKept s t ∧ t.acceptPoint = false) ∧
    ∃ t, exec .halt s = .next t ∧ only t [] ∧ t.halted = true ∧ t.requests = s.requests ∧ t.host = s.host ∧
      t.product = s.product ∧ t.hostAreas = s.hostAreas ∧ t.tick = s.tick ∧ t.acceptPoint = s.acceptPoint

/-- LDSR to each register that it may write, with the fixed-0 bits not stored, and STSR of each register (47_special.md R394,
R410, 10_state.md R38, R50). That DBPC stores bit 0 is the spec's decision D2 (log 20), that LDSR to PSW is followed by no
acceptance point its decision D19 (log 10). -/
def Obligations.SystemRegisterTransfers : Prop :=
  ∀ (s : State) (reg2 : RegNum),
    (∀ p ∈ sysRegTable, ∃ t, exec (.ldsr reg2 p.1) s = .next t ∧ t.sysReg p.2.1 = s.reg reg2 &&& p.2.2 ∧
      SysKept [p.2.1] s t ∧ t.pc = s.nextPc 4 ∧ RegsAre s t [] ∧ MemKept s t ∧ EnvKept s t ∧
      t.acceptPoint = (s.acceptPoint && decide (p.2.1 ≠ .psw))) ∧
    ∀ p ∈ sysRegTable.map (fun p => (p.1, p.2.1)) ++ [((4 : BitVec 5), SysReg.ecr), (21, .dir)],
      Completes (.stsr p.1 reg2) s [(reg2, s.sysReg p.2)] [] (s.nextPc 4)

/-- CALLT and SWITCH: the table entry, the target, and what CALLT saves (47_special.md R381, R412). -/
def Obligations.TableJumpForms : Prop :=
  ∀ (s : State) (imm6 : BitVec 6) (reg1 : RegNum),
    (∃ t, exec (.callt imm6) s = .next t ∧ t.ctpc = s.nextPc 2 ∧ t.ctpsw = s.psw &&& 0x000000FF#32 ∧
      t.pc = (s.ctbp + (s.load2 (s.ctbp + BitVec.ofNat 32 (2 * imm6.toNat))).zeroExtend 32) &&& 0x03FFFFFE#32 ∧
      SysKept [.ctpc, .ctpsw] s t ∧ RegsAre s t [] ∧ MemKept s t ∧ EnvKept s t ∧ t.acceptPoint = s.acceptPoint) ∧
    Completes (.switch reg1) s [] []
      ((s.pc + 2#32 + 2#32 * (s.load2 (s.pc + 2#32 + 2#32 * s.reg reg1)).signExtend 32) &&& 0x03FFFFFE#32)

/-- PREPARE, the five forms: the words stored, but for bytes not in RAM (log 2, log 3), sp, ep (47_special.md R400, R401,
R404, R405). The masked addresses are the spec's decision D17 (log 23); that ep receives the new sp where ff = 00 is an
inference of R405 (log 34, DEDUCED). -/
def Obligations.PrepareForms : Prop :=
  ∀ (s : State) (list12 : RegList) (imm5 : BitVec 5) (imm16 : Half) (imm32 : Word), s.mem.wf = true →
    let sp := s.reg 3 - BitVec.ofNat 32 (4 * (listedRegs list12).length + 4 * imm5.toNat)
    CompletesPrepare (.prepare list12 imm5) s list12 [(3, sp)] (s.nextPc 4) ∧
    CompletesPrepare (.prepareSp list12 imm5) s list12 [(30, sp), (3, sp)] (s.nextPc 4) ∧
    CompletesPrepare (.prepareImm16 list12 imm5 imm16) s list12 [(30, imm16.signExtend 32), (3, sp)] (s.nextPc 6) ∧
    CompletesPrepare (.prepareHi16 list12 imm5 imm16) s list12 [(30, BitVec.ofNat 32 (65536 * imm16.toNat)), (3, sp)]
      (s.nextPc 6) ∧
    CompletesPrepare (.prepareImm32 list12 imm5 imm32) s list12 [(30, imm32), (3, sp)] (s.nextPc 8)

/-- DISPOSE, both forms: the registers loaded, sp, the jump through the register as loaded (47_special.md R400, R401, R408,
R409). -/
def Obligations.DisposeForms : Prop :=
  ∀ (s : State) (imm5 : BitVec 5) (list12 : RegList) (reg1 : RegNum),
    let a := s.reg 3 + BitVec.ofNat 32 (4 * imm5.toNat)
    let rest (t : State) : Prop := FlagsAre s t [] ∧ SysKept [] s t ∧ MemKept s t ∧ EnvKept s t ∧
      t.acceptPoint = s.acceptPoint
    (∃ t, exec (.dispose imm5 list12) s = .next t ∧ Popped s t a list12 ∧ t.pc = s.nextPc 4 ∧ rest t) ∧
    ∃ t, exec (.disposeJump imm5 list12 reg1) s = .next t ∧ Popped s t a list12 ∧
      t.pc = t.reg reg1 &&& 0x03FFFFFE#32 ∧ rest t

/-- 47_special.md R408: DISPOSE undoes PREPARE with the same list and immediate: every register has its value again, for every
sp, aligned or not (the spec's decision D17, log 23), where the stack words are in RAM. -/
def Obligations.DisposeUndoesPrepare : Prop :=
  ∀ (s t u : State) (list12 : RegList) (imm5 : BitVec 5), s.mem.wf = true →
    (∀ k, k < 12 → ∀ j, j < 4 → s.inRam (pushAddress (s.reg 3#5) k j) = true) →
    exec (.prepare list12 imm5) s = .next t → exec (.dispose imm5 list12) t = .next u → ∀ r, u.reg r = s.reg r
end

