-- ==== Sys2Proof/Laws/Memory.lean ====
section
/-! SUPPORT. The laws of memory: a write keeps the canonical form, a read after a write, and equal reads of canonical
memories are equal memories. -/

namespace Sys2Proof.Machine

theorem wfFrom_mono {m : Memory} {low low' : Nat} (h : Memory.wfFrom low m = true) (hl : low' ≤ low) :
    Memory.wfFrom low' m = true := by
  cases m with
  | nil => rfl
  | cons p rest =>
    obtain ⟨k, b⟩ := p
    simp only [Memory.wfFrom, Bool.and_eq_true, decide_eq_true_eq] at h ⊢
    exact ⟨⟨⟨by omega, h.1.1.2⟩, h.1.2⟩, h.2⟩

/-- Below its bound, a canonical memory reads as unlisted. -/
theorem read_below {m : Memory} {low a : Nat} (h : Memory.wfFrom low m = true) (ha : a < low) :
    m.read a = Memory.unlisted := by
  cases m with
  | nil => rfl
  | cons p rest =>
    obtain ⟨k, b⟩ := p
    simp only [Memory.wfFrom, Bool.and_eq_true, decide_eq_true_eq] at h
    simp only [Memory.read]
    rw [if_neg (by omega), if_pos (by omega)]

theorem wfFrom_cons {m : Memory} {low a : Nat} {b : Byte} (h : Memory.wfFrom (a + 1) m = true) (hl : low ≤ a)
    (ha : a < 2 ^ 32) : Memory.wfFrom low (Memory.cons a b m) = true := by
  unfold Memory.cons
  split
  · exact wfFrom_mono h (by omega)
  · rename_i hb
    simp only [Memory.wfFrom, Bool.and_eq_true, decide_eq_true_eq]
    exact ⟨⟨⟨hl, ha⟩, hb⟩, h⟩

theorem wfFrom_write {m : Memory} {low a : Nat} {b : Byte} (h : Memory.wfFrom low m = true) (hl : low ≤ a)
    (ha : a < 2 ^ 32) : Memory.wfFrom low (m.write a b) = true := by
  induction m generalizing low with
  | nil => exact wfFrom_cons rfl hl ha
  | cons p rest ih =>
    obtain ⟨k, c⟩ := p
    have h0 := h
    simp only [Memory.wfFrom, Bool.and_eq_true, decide_eq_true_eq] at h
    simp only [Memory.write]
    split
    · simp only [Memory.wfFrom, Bool.and_eq_true, decide_eq_true_eq]
      exact ⟨h.1, ih h.2 (by omega)⟩
    · split
      · rename_i hk
        subst hk
        exact wfFrom_cons h.2 hl ha
      · refine wfFrom_cons ?_ hl ha
        simp only [Memory.wfFrom, Bool.and_eq_true, decide_eq_true_eq]
        exact ⟨⟨⟨by omega, h.1.1.2⟩, h.1.2⟩, h.2⟩

/-- A write keeps the canonical form. -/
theorem wf_write {m : Memory} {a : Nat} {b : Byte} (h : m.wf = true) (ha : a < 2 ^ 32) : (m.write a b).wf = true :=
  wfFrom_write h (Nat.zero_le a) ha

theorem read_cons {m : Memory} {a : Nat} {b : Byte} (h : Memory.wfFrom (a + 1) m = true) (x : Nat) :
    (Memory.cons a b m).read x = if x = a then b else m.read x := by
  unfold Memory.cons
  split
  · rename_i hb
    split
    · rename_i hx
      rw [hx, read_below h (by omega), hb]
    · rfl
  · simp only [Memory.read]
    by_cases hx : x = a
    · simp [hx]
    · rw [if_neg (fun h => hx h.symm), if_neg hx]
      split
      · rw [read_below h (by omega)]
      · rfl

/-- A read after a write: the written byte at its address, the old byte everywhere else. -/
theorem read_write_from {m : Memory} {low a : Nat} {b : Byte} (h : Memory.wfFrom low m = true) (x : Nat) :
    (m.write a b).read x = if x = a then b else m.read x := by
  induction m generalizing low with
  | nil => exact read_cons rfl x
  | cons p rest ih =>
    obtain ⟨k, c⟩ := p
    simp only [Memory.wfFrom, Bool.and_eq_true, decide_eq_true_eq] at h
    simp only [Memory.write]
    split
    · simp only [Memory.read, ih h.2]
      split
      · rw [if_neg (by omega)]
      · split
        · rw [if_neg (by omega)]
        · rfl
    · split
      · rename_i hk
        subst hk
        rw [read_cons h.2]
        by_cases hx : x = k
        · simp [hx]
        · rw [if_neg hx, if_neg hx]
          simp only [Memory.read]
          rw [if_neg (fun h => hx h.symm)]
          split
          · rw [read_below h.2 (by omega)]
          · rfl
      · refine read_cons ?_ x
        simp only [Memory.wfFrom, Bool.and_eq_true, decide_eq_true_eq]
        exact ⟨⟨⟨by omega, h.1.1.2⟩, h.1.2⟩, h.2⟩

theorem read_write {m : Memory} (h : m.wf = true) (a : Nat) (b : Byte) (x : Nat) :
    (m.write a b).read x = if x = a then b else m.read x := read_write_from h x

/-- Memories above one bound that read the same everywhere are the same list. -/
theorem eq_of_read_from {m n : Memory} {low : Nat} (hm : Memory.wfFrom low m = true) (hn : Memory.wfFrom low n = true)
    (h : ∀ a, m.read a = n.read a) : m = n := by
  induction m generalizing n low with
  | nil =>
    cases n with
    | nil => rfl
    | cons q rest =>
      obtain ⟨k, b⟩ := q
      have := h k
      simp only [Memory.wfFrom, Bool.and_eq_true, decide_eq_true_eq] at hn
      simp only [Memory.read, if_true] at this
      exact absurd this.symm hn.1.2
  | cons p rest ih =>
    obtain ⟨k, b⟩ := p
    simp only [Memory.wfFrom, Bool.and_eq_true, decide_eq_true_eq] at hm
    cases n with
    | nil =>
      have := h k
      simp only [Memory.read, if_true] at this
      exact absurd this hm.1.2
    | cons q rest' =>
      obtain ⟨j, c⟩ := q
      simp only [Memory.wfFrom, Bool.and_eq_true, decide_eq_true_eq] at hn
      have hk := h k
      have hj := h j
      simp only [Memory.read, if_true] at hk hj
      have hkj : k = j := by
        rcases Nat.lt_trichotomy k j with hlt | heq | hgt
        · rw [if_neg (by omega), if_pos hlt] at hk
          exact absurd hk hm.1.2
        · exact heq
        · rw [if_neg (by omega), if_pos hgt] at hj
          exact absurd hj.symm hn.1.2
      subst hkj
      rw [if_pos rfl] at hk
      subst hk
      have : rest = rest' := by
        refine ih hm.2 hn.2 fun a => ?_
        by_cases hak : a < k + 1
        · rw [read_below hm.2 hak, read_below hn.2 hak]
        · have := h a
          simp only [Memory.read] at this
          rw [if_neg (by omega), if_neg (by omega), if_neg (by omega), if_neg (by omega)] at this
          exact this
      rw [this]

end Sys2Proof.Machine
end

