-- ==== Sys2Proof/Laws/State.lean ====
section
/-! SUPPORT. One lemma for each update and each field it leaves or writes, so that no later proof unfolds a record update. -/

namespace Sys2Proof.Machine


/-! `setPc` -/

@[simp] theorem setPc_gr (s : State) (t : Word) : (s.setPc t).gr = s.gr := rfl
@[simp] theorem setPc_eipc (s : State) (t : Word) : (s.setPc t).eipc = s.eipc := rfl
@[simp] theorem setPc_eipsw (s : State) (t : Word) : (s.setPc t).eipsw = s.eipsw := rfl
@[simp] theorem setPc_fepc (s : State) (t : Word) : (s.setPc t).fepc = s.fepc := rfl
@[simp] theorem setPc_fepsw (s : State) (t : Word) : (s.setPc t).fepsw = s.fepsw := rfl
@[simp] theorem setPc_ecr (s : State) (t : Word) : (s.setPc t).ecr = s.ecr := rfl
@[simp] theorem setPc_psw (s : State) (t : Word) : (s.setPc t).psw = s.psw := rfl
@[simp] theorem setPc_ctpc (s : State) (t : Word) : (s.setPc t).ctpc = s.ctpc := rfl
@[simp] theorem setPc_ctpsw (s : State) (t : Word) : (s.setPc t).ctpsw = s.ctpsw := rfl
@[simp] theorem setPc_dbpc (s : State) (t : Word) : (s.setPc t).dbpc = s.dbpc := rfl
@[simp] theorem setPc_dbpsw (s : State) (t : Word) : (s.setPc t).dbpsw = s.dbpsw := rfl
@[simp] theorem setPc_ctbp (s : State) (t : Word) : (s.setPc t).ctbp = s.ctbp := rfl
@[simp] theorem setPc_dir (s : State) (t : Word) : (s.setPc t).dir = s.dir := rfl
@[simp] theorem setPc_mem (s : State) (t : Word) : (s.setPc t).mem = s.mem := rfl
@[simp] theorem setPc_halted (s : State) (t : Word) : (s.setPc t).halted = s.halted := rfl
@[simp] theorem setPc_acceptPoint (s : State) (t : Word) : (s.setPc t).acceptPoint = s.acceptPoint := rfl
@[simp] theorem setPc_requests (s : State) (t : Word) : (s.setPc t).requests = s.requests := rfl
@[simp] theorem setPc_host (s : State) (t : Word) : (s.setPc t).host = s.host := rfl
@[simp] theorem setPc_product (s : State) (t : Word) : (s.setPc t).product = s.product := rfl
@[simp] theorem setPc_hostAreas (s : State) (t : Word) : (s.setPc t).hostAreas = s.hostAreas := rfl
@[simp] theorem setPc_tick (s : State) (t : Word) : (s.setPc t).tick = s.tick := rfl
@[simp] theorem setPc_pc (s : State) (t : Word) : (s.setPc t).pc = reducePc t := rfl

/-! `advance` -/

@[simp] theorem advance_gr (s : State) (n : Nat) : (s.advance n).gr = s.gr := rfl
@[simp] theorem advance_eipc (s : State) (n : Nat) : (s.advance n).eipc = s.eipc := rfl
@[simp] theorem advance_eipsw (s : State) (n : Nat) : (s.advance n).eipsw = s.eipsw := rfl
@[simp] theorem advance_fepc (s : State) (n : Nat) : (s.advance n).fepc = s.fepc := rfl
@[simp] theorem advance_fepsw (s : State) (n : Nat) : (s.advance n).fepsw = s.fepsw := rfl
@[simp] theorem advance_ecr (s : State) (n : Nat) : (s.advance n).ecr = s.ecr := rfl
@[simp] theorem advance_psw (s : State) (n : Nat) : (s.advance n).psw = s.psw := rfl
@[simp] theorem advance_ctpc (s : State) (n : Nat) : (s.advance n).ctpc = s.ctpc := rfl
@[simp] theorem advance_ctpsw (s : State) (n : Nat) : (s.advance n).ctpsw = s.ctpsw := rfl
@[simp] theorem advance_dbpc (s : State) (n : Nat) : (s.advance n).dbpc = s.dbpc := rfl
@[simp] theorem advance_dbpsw (s : State) (n : Nat) : (s.advance n).dbpsw = s.dbpsw := rfl
@[simp] theorem advance_ctbp (s : State) (n : Nat) : (s.advance n).ctbp = s.ctbp := rfl
@[simp] theorem advance_dir (s : State) (n : Nat) : (s.advance n).dir = s.dir := rfl
@[simp] theorem advance_mem (s : State) (n : Nat) : (s.advance n).mem = s.mem := rfl
@[simp] theorem advance_halted (s : State) (n : Nat) : (s.advance n).halted = s.halted := rfl
@[simp] theorem advance_acceptPoint (s : State) (n : Nat) : (s.advance n).acceptPoint = s.acceptPoint := rfl
@[simp] theorem advance_requests (s : State) (n : Nat) : (s.advance n).requests = s.requests := rfl
@[simp] theorem advance_host (s : State) (n : Nat) : (s.advance n).host = s.host := rfl
@[simp] theorem advance_product (s : State) (n : Nat) : (s.advance n).product = s.product := rfl
@[simp] theorem advance_hostAreas (s : State) (n : Nat) : (s.advance n).hostAreas = s.hostAreas := rfl
@[simp] theorem advance_tick (s : State) (n : Nat) : (s.advance n).tick = s.tick := rfl

/-! `setFlag` -/

@[simp] theorem setFlag_gr (s : State) (b : PswBit) (v : Bool) : (s.setFlag b v).gr = s.gr := rfl
@[simp] theorem setFlag_pc (s : State) (b : PswBit) (v : Bool) : (s.setFlag b v).pc = s.pc := rfl
@[simp] theorem setFlag_eipc (s : State) (b : PswBit) (v : Bool) : (s.setFlag b v).eipc = s.eipc := rfl
@[simp] theorem setFlag_eipsw (s : State) (b : PswBit) (v : Bool) : (s.setFlag b v).eipsw = s.eipsw := rfl
@[simp] theorem setFlag_fepc (s : State) (b : PswBit) (v : Bool) : (s.setFlag b v).fepc = s.fepc := rfl
@[simp] theorem setFlag_fepsw (s : State) (b : PswBit) (v : Bool) : (s.setFlag b v).fepsw = s.fepsw := rfl
@[simp] theorem setFlag_ecr (s : State) (b : PswBit) (v : Bool) : (s.setFlag b v).ecr = s.ecr := rfl
@[simp] theorem setFlag_ctpc (s : State) (b : PswBit) (v : Bool) : (s.setFlag b v).ctpc = s.ctpc := rfl
@[simp] theorem setFlag_ctpsw (s : State) (b : PswBit) (v : Bool) : (s.setFlag b v).ctpsw = s.ctpsw := rfl
@[simp] theorem setFlag_dbpc (s : State) (b : PswBit) (v : Bool) : (s.setFlag b v).dbpc = s.dbpc := rfl
@[simp] theorem setFlag_dbpsw (s : State) (b : PswBit) (v : Bool) : (s.setFlag b v).dbpsw = s.dbpsw := rfl
@[simp] theorem setFlag_ctbp (s : State) (b : PswBit) (v : Bool) : (s.setFlag b v).ctbp = s.ctbp := rfl
@[simp] theorem setFlag_dir (s : State) (b : PswBit) (v : Bool) : (s.setFlag b v).dir = s.dir := rfl
@[simp] theorem setFlag_mem (s : State) (b : PswBit) (v : Bool) : (s.setFlag b v).mem = s.mem := rfl
@[simp] theorem setFlag_halted (s : State) (b : PswBit) (v : Bool) : (s.setFlag b v).halted = s.halted := rfl
@[simp] theorem setFlag_acceptPoint (s : State) (b : PswBit) (v : Bool) : (s.setFlag b v).acceptPoint = s.acceptPoint := rfl
@[simp] theorem setFlag_requests (s : State) (b : PswBit) (v : Bool) : (s.setFlag b v).requests = s.requests := rfl
@[simp] theorem setFlag_host (s : State) (b : PswBit) (v : Bool) : (s.setFlag b v).host = s.host := rfl
@[simp] theorem setFlag_product (s : State) (b : PswBit) (v : Bool) : (s.setFlag b v).product = s.product := rfl
@[simp] theorem setFlag_hostAreas (s : State) (b : PswBit) (v : Bool) : (s.setFlag b v).hostAreas = s.hostAreas := rfl
@[simp] theorem setFlag_tick (s : State) (b : PswBit) (v : Bool) : (s.setFlag b v).tick = s.tick := rfl

/-! `setReg` -/

@[simp] theorem setReg_pc (s : State) (r : RegNum) (v : Word) : (s.setReg r v).pc = s.pc := by
  unfold State.setReg; split <;> rfl
@[simp] theorem setReg_eipc (s : State) (r : RegNum) (v : Word) : (s.setReg r v).eipc = s.eipc := by
  unfold State.setReg; split <;> rfl
@[simp] theorem setReg_eipsw (s : State) (r : RegNum) (v : Word) : (s.setReg r v).eipsw = s.eipsw := by
  unfold State.setReg; split <;> rfl
@[simp] theorem setReg_fepc (s : State) (r : RegNum) (v : Word) : (s.setReg r v).fepc = s.fepc := by
  unfold State.setReg; split <;> rfl
@[simp] theorem setReg_fepsw (s : State) (r : RegNum) (v : Word) : (s.setReg r v).fepsw = s.fepsw := by
  unfold State.setReg; split <;> rfl
@[simp] theorem setReg_ecr (s : State) (r : RegNum) (v : Word) : (s.setReg r v).ecr = s.ecr := by
  unfold State.setReg; split <;> rfl
@[simp] theorem setReg_psw (s : State) (r : RegNum) (v : Word) : (s.setReg r v).psw = s.psw := by
  unfold State.setReg; split <;> rfl
@[simp] theorem setReg_ctpc (s : State) (r : RegNum) (v : Word) : (s.setReg r v).ctpc = s.ctpc := by
  unfold State.setReg; split <;> rfl
@[simp] theorem setReg_ctpsw (s : State) (r : RegNum) (v : Word) : (s.setReg r v).ctpsw = s.ctpsw := by
  unfold State.setReg; split <;> rfl
@[simp] theorem setReg_dbpc (s : State) (r : RegNum) (v : Word) : (s.setReg r v).dbpc = s.dbpc := by
  unfold State.setReg; split <;> rfl
@[simp] theorem setReg_dbpsw (s : State) (r : RegNum) (v : Word) : (s.setReg r v).dbpsw = s.dbpsw := by
  unfold State.setReg; split <;> rfl
@[simp] theorem setReg_ctbp (s : State) (r : RegNum) (v : Word) : (s.setReg r v).ctbp = s.ctbp := by
  unfold State.setReg; split <;> rfl
@[simp] theorem setReg_dir (s : State) (r : RegNum) (v : Word) : (s.setReg r v).dir = s.dir := by
  unfold State.setReg; split <;> rfl
@[simp] theorem setReg_mem (s : State) (r : RegNum) (v : Word) : (s.setReg r v).mem = s.mem := by
  unfold State.setReg; split <;> rfl
@[simp] theorem setReg_halted (s : State) (r : RegNum) (v : Word) : (s.setReg r v).halted = s.halted := by
  unfold State.setReg; split <;> rfl
@[simp] theorem setReg_acceptPoint (s : State) (r : RegNum) (v : Word) : (s.setReg r v).acceptPoint = s.acceptPoint := by
  unfold State.setReg; split <;> rfl
@[simp] theorem setReg_requests (s : State) (r : RegNum) (v : Word) : (s.setReg r v).requests = s.requests := by
  unfold State.setReg; split <;> rfl
@[simp] theorem setReg_host (s : State) (r : RegNum) (v : Word) : (s.setReg r v).host = s.host := by
  unfold State.setReg; split <;> rfl
@[simp] theorem setReg_product (s : State) (r : RegNum) (v : Word) : (s.setReg r v).product = s.product := by
  unfold State.setReg; split <;> rfl
@[simp] theorem setReg_hostAreas (s : State) (r : RegNum) (v : Word) : (s.setReg r v).hostAreas = s.hostAreas := by
  unfold State.setReg; split <;> rfl
@[simp] theorem setReg_tick (s : State) (r : RegNum) (v : Word) : (s.setReg r v).tick = s.tick := by
  unfold State.setReg; split <;> rfl

/-! `setSysReg` -/

@[simp] theorem setSysReg_gr (s : State) (r : SysReg) (v : Word) : (s.setSysReg r v).gr = s.gr := by
  cases r <;> rfl
@[simp] theorem setSysReg_pc (s : State) (r : SysReg) (v : Word) : (s.setSysReg r v).pc = s.pc := by
  cases r <;> rfl
@[simp] theorem setSysReg_mem (s : State) (r : SysReg) (v : Word) : (s.setSysReg r v).mem = s.mem := by
  cases r <;> rfl
@[simp] theorem setSysReg_halted (s : State) (r : SysReg) (v : Word) : (s.setSysReg r v).halted = s.halted := by
  cases r <;> rfl
@[simp] theorem setSysReg_acceptPoint (s : State) (r : SysReg) (v : Word) : (s.setSysReg r v).acceptPoint = s.acceptPoint := by
  cases r <;> rfl
@[simp] theorem setSysReg_requests (s : State) (r : SysReg) (v : Word) : (s.setSysReg r v).requests = s.requests := by
  cases r <;> rfl
@[simp] theorem setSysReg_host (s : State) (r : SysReg) (v : Word) : (s.setSysReg r v).host = s.host := by
  cases r <;> rfl
@[simp] theorem setSysReg_product (s : State) (r : SysReg) (v : Word) : (s.setSysReg r v).product = s.product := by
  cases r <;> rfl
@[simp] theorem setSysReg_hostAreas (s : State) (r : SysReg) (v : Word) : (s.setSysReg r v).hostAreas = s.hostAreas := by
  cases r <;> rfl
@[simp] theorem setSysReg_tick (s : State) (r : SysReg) (v : Word) : (s.setSysReg r v).tick = s.tick := by
  cases r <;> rfl

/-! `store1` -/

@[simp] theorem store1_gr (s : State) (a : Word) (v : Byte) : (s.store1 a v).gr = s.gr := by
  unfold State.store1; split <;> rfl
@[simp] theorem store1_pc (s : State) (a : Word) (v : Byte) : (s.store1 a v).pc = s.pc := by
  unfold State.store1; split <;> rfl
@[simp] theorem store1_eipc (s : State) (a : Word) (v : Byte) : (s.store1 a v).eipc = s.eipc := by
  unfold State.store1; split <;> rfl
@[simp] theorem store1_eipsw (s : State) (a : Word) (v : Byte) : (s.store1 a v).eipsw = s.eipsw := by
  unfold State.store1; split <;> rfl
@[simp] theorem store1_fepc (s : State) (a : Word) (v : Byte) : (s.store1 a v).fepc = s.fepc := by
  unfold State.store1; split <;> rfl
@[simp] theorem store1_fepsw (s : State) (a : Word) (v : Byte) : (s.store1 a v).fepsw = s.fepsw := by
  unfold State.store1; split <;> rfl
@[simp] theorem store1_ecr (s : State) (a : Word) (v : Byte) : (s.store1 a v).ecr = s.ecr := by
  unfold State.store1; split <;> rfl
@[simp] theorem store1_psw (s : State) (a : Word) (v : Byte) : (s.store1 a v).psw = s.psw := by
  unfold State.store1; split <;> rfl
@[simp] theorem store1_ctpc (s : State) (a : Word) (v : Byte) : (s.store1 a v).ctpc = s.ctpc := by
  unfold State.store1; split <;> rfl
@[simp] theorem store1_ctpsw (s : State) (a : Word) (v : Byte) : (s.store1 a v).ctpsw = s.ctpsw := by
  unfold State.store1; split <;> rfl
@[simp] theorem store1_dbpc (s : State) (a : Word) (v : Byte) : (s.store1 a v).dbpc = s.dbpc := by
  unfold State.store1; split <;> rfl
@[simp] theorem store1_dbpsw (s : State) (a : Word) (v : Byte) : (s.store1 a v).dbpsw = s.dbpsw := by
  unfold State.store1; split <;> rfl
@[simp] theorem store1_ctbp (s : State) (a : Word) (v : Byte) : (s.store1 a v).ctbp = s.ctbp := by
  unfold State.store1; split <;> rfl
@[simp] theorem store1_dir (s : State) (a : Word) (v : Byte) : (s.store1 a v).dir = s.dir := by
  unfold State.store1; split <;> rfl
@[simp] theorem store1_halted (s : State) (a : Word) (v : Byte) : (s.store1 a v).halted = s.halted := by
  unfold State.store1; split <;> rfl
@[simp] theorem store1_acceptPoint (s : State) (a : Word) (v : Byte) : (s.store1 a v).acceptPoint = s.acceptPoint := by
  unfold State.store1; split <;> rfl
@[simp] theorem store1_requests (s : State) (a : Word) (v : Byte) : (s.store1 a v).requests = s.requests := by
  unfold State.store1; split <;> rfl
@[simp] theorem store1_host (s : State) (a : Word) (v : Byte) : (s.store1 a v).host = s.host := by
  unfold State.store1; split <;> rfl
@[simp] theorem store1_product (s : State) (a : Word) (v : Byte) : (s.store1 a v).product = s.product := by
  unfold State.store1; split <;> rfl
@[simp] theorem store1_hostAreas (s : State) (a : Word) (v : Byte) : (s.store1 a v).hostAreas = s.hostAreas := by
  unfold State.store1; split <;> rfl
@[simp] theorem store1_tick (s : State) (a : Word) (v : Byte) : (s.store1 a v).tick = s.tick := by
  unfold State.store1; split <;> rfl

/-! `store2` -/

@[simp] theorem store2_gr (s : State) (a : Word) (v : Half) : (s.store2 a v).gr = s.gr := by
  simp [State.store2]
@[simp] theorem store2_pc (s : State) (a : Word) (v : Half) : (s.store2 a v).pc = s.pc := by
  simp [State.store2]
@[simp] theorem store2_eipc (s : State) (a : Word) (v : Half) : (s.store2 a v).eipc = s.eipc := by
  simp [State.store2]
@[simp] theorem store2_eipsw (s : State) (a : Word) (v : Half) : (s.store2 a v).eipsw = s.eipsw := by
  simp [State.store2]
@[simp] theorem store2_fepc (s : State) (a : Word) (v : Half) : (s.store2 a v).fepc = s.fepc := by
  simp [State.store2]
@[simp] theorem store2_fepsw (s : State) (a : Word) (v : Half) : (s.store2 a v).fepsw = s.fepsw := by
  simp [State.store2]
@[simp] theorem store2_ecr (s : State) (a : Word) (v : Half) : (s.store2 a v).ecr = s.ecr := by
  simp [State.store2]
@[simp] theorem store2_psw (s : State) (a : Word) (v : Half) : (s.store2 a v).psw = s.psw := by
  simp [State.store2]
@[simp] theorem store2_ctpc (s : State) (a : Word) (v : Half) : (s.store2 a v).ctpc = s.ctpc := by
  simp [State.store2]
@[simp] theorem store2_ctpsw (s : State) (a : Word) (v : Half) : (s.store2 a v).ctpsw = s.ctpsw := by
  simp [State.store2]
@[simp] theorem store2_dbpc (s : State) (a : Word) (v : Half) : (s.store2 a v).dbpc = s.dbpc := by
  simp [State.store2]
@[simp] theorem store2_dbpsw (s : State) (a : Word) (v : Half) : (s.store2 a v).dbpsw = s.dbpsw := by
  simp [State.store2]
@[simp] theorem store2_ctbp (s : State) (a : Word) (v : Half) : (s.store2 a v).ctbp = s.ctbp := by
  simp [State.store2]
@[simp] theorem store2_dir (s : State) (a : Word) (v : Half) : (s.store2 a v).dir = s.dir := by
  simp [State.store2]
@[simp] theorem store2_halted (s : State) (a : Word) (v : Half) : (s.store2 a v).halted = s.halted := by
  simp [State.store2]
@[simp] theorem store2_acceptPoint (s : State) (a : Word) (v : Half) : (s.store2 a v).acceptPoint = s.acceptPoint := by
  simp [State.store2]
@[simp] theorem store2_requests (s : State) (a : Word) (v : Half) : (s.store2 a v).requests = s.requests := by
  simp [State.store2]
@[simp] theorem store2_host (s : State) (a : Word) (v : Half) : (s.store2 a v).host = s.host := by
  simp [State.store2]
@[simp] theorem store2_product (s : State) (a : Word) (v : Half) : (s.store2 a v).product = s.product := by
  simp [State.store2]
@[simp] theorem store2_hostAreas (s : State) (a : Word) (v : Half) : (s.store2 a v).hostAreas = s.hostAreas := by
  simp [State.store2]
@[simp] theorem store2_tick (s : State) (a : Word) (v : Half) : (s.store2 a v).tick = s.tick := by
  simp [State.store2]

/-! `store4` -/

@[simp] theorem store4_gr (s : State) (a : Word) (v : Word) : (s.store4 a v).gr = s.gr := by
  simp [State.store4]
@[simp] theorem store4_pc (s : State) (a : Word) (v : Word) : (s.store4 a v).pc = s.pc := by
  simp [State.store4]
@[simp] theorem store4_eipc (s : State) (a : Word) (v : Word) : (s.store4 a v).eipc = s.eipc := by
  simp [State.store4]
@[simp] theorem store4_eipsw (s : State) (a : Word) (v : Word) : (s.store4 a v).eipsw = s.eipsw := by
  simp [State.store4]
@[simp] theorem store4_fepc (s : State) (a : Word) (v : Word) : (s.store4 a v).fepc = s.fepc := by
  simp [State.store4]
@[simp] theorem store4_fepsw (s : State) (a : Word) (v : Word) : (s.store4 a v).fepsw = s.fepsw := by
  simp [State.store4]
@[simp] theorem store4_ecr (s : State) (a : Word) (v : Word) : (s.store4 a v).ecr = s.ecr := by
  simp [State.store4]
@[simp] theorem store4_psw (s : State) (a : Word) (v : Word) : (s.store4 a v).psw = s.psw := by
  simp [State.store4]
@[simp] theorem store4_ctpc (s : State) (a : Word) (v : Word) : (s.store4 a v).ctpc = s.ctpc := by
  simp [State.store4]
@[simp] theorem store4_ctpsw (s : State) (a : Word) (v : Word) : (s.store4 a v).ctpsw = s.ctpsw := by
  simp [State.store4]
@[simp] theorem store4_dbpc (s : State) (a : Word) (v : Word) : (s.store4 a v).dbpc = s.dbpc := by
  simp [State.store4]
@[simp] theorem store4_dbpsw (s : State) (a : Word) (v : Word) : (s.store4 a v).dbpsw = s.dbpsw := by
  simp [State.store4]
@[simp] theorem store4_ctbp (s : State) (a : Word) (v : Word) : (s.store4 a v).ctbp = s.ctbp := by
  simp [State.store4]
@[simp] theorem store4_dir (s : State) (a : Word) (v : Word) : (s.store4 a v).dir = s.dir := by
  simp [State.store4]
@[simp] theorem store4_halted (s : State) (a : Word) (v : Word) : (s.store4 a v).halted = s.halted := by
  simp [State.store4]
@[simp] theorem store4_acceptPoint (s : State) (a : Word) (v : Word) : (s.store4 a v).acceptPoint = s.acceptPoint := by
  simp [State.store4]
@[simp] theorem store4_requests (s : State) (a : Word) (v : Word) : (s.store4 a v).requests = s.requests := by
  simp [State.store4]
@[simp] theorem store4_host (s : State) (a : Word) (v : Word) : (s.store4 a v).host = s.host := by
  simp [State.store4]
@[simp] theorem store4_product (s : State) (a : Word) (v : Word) : (s.store4 a v).product = s.product := by
  simp [State.store4]
@[simp] theorem store4_hostAreas (s : State) (a : Word) (v : Word) : (s.store4 a v).hostAreas = s.hostAreas := by
  simp [State.store4]
@[simp] theorem store4_tick (s : State) (a : Word) (v : Word) : (s.store4 a v).tick = s.tick := by
  simp [State.store4]

/-! `withoutSampling` -/

@[simp] theorem withoutSampling_gr (s : State) : (s.withoutSampling).gr = s.gr := rfl
@[simp] theorem withoutSampling_pc (s : State) : (s.withoutSampling).pc = s.pc := rfl
@[simp] theorem withoutSampling_eipc (s : State) : (s.withoutSampling).eipc = s.eipc := rfl
@[simp] theorem withoutSampling_eipsw (s : State) : (s.withoutSampling).eipsw = s.eipsw := rfl
@[simp] theorem withoutSampling_fepc (s : State) : (s.withoutSampling).fepc = s.fepc := rfl
@[simp] theorem withoutSampling_fepsw (s : State) : (s.withoutSampling).fepsw = s.fepsw := rfl
@[simp] theorem withoutSampling_ecr (s : State) : (s.withoutSampling).ecr = s.ecr := rfl
@[simp] theorem withoutSampling_psw (s : State) : (s.withoutSampling).psw = s.psw := rfl
@[simp] theorem withoutSampling_ctpc (s : State) : (s.withoutSampling).ctpc = s.ctpc := rfl
@[simp] theorem withoutSampling_ctpsw (s : State) : (s.withoutSampling).ctpsw = s.ctpsw := rfl
@[simp] theorem withoutSampling_dbpc (s : State) : (s.withoutSampling).dbpc = s.dbpc := rfl
@[simp] theorem withoutSampling_dbpsw (s : State) : (s.withoutSampling).dbpsw = s.dbpsw := rfl
@[simp] theorem withoutSampling_ctbp (s : State) : (s.withoutSampling).ctbp = s.ctbp := rfl
@[simp] theorem withoutSampling_dir (s : State) : (s.withoutSampling).dir = s.dir := rfl
@[simp] theorem withoutSampling_mem (s : State) : (s.withoutSampling).mem = s.mem := rfl
@[simp] theorem withoutSampling_halted (s : State) : (s.withoutSampling).halted = s.halted := rfl
@[simp] theorem withoutSampling_requests (s : State) : (s.withoutSampling).requests = s.requests := rfl
@[simp] theorem withoutSampling_host (s : State) : (s.withoutSampling).host = s.host := rfl
@[simp] theorem withoutSampling_product (s : State) : (s.withoutSampling).product = s.product := rfl
@[simp] theorem withoutSampling_hostAreas (s : State) : (s.withoutSampling).hostAreas = s.hostAreas := rfl
@[simp] theorem withoutSampling_tick (s : State) : (s.withoutSampling).tick = s.tick := rfl
@[simp] theorem withoutSampling_acceptPoint (s : State) : s.withoutSampling.acceptPoint = false := rfl

/-! `begin` -/

@[simp] theorem begin_gr (s : State) : (s.begin).gr = s.gr := rfl
@[simp] theorem begin_pc (s : State) : (s.begin).pc = s.pc := rfl
@[simp] theorem begin_eipc (s : State) : (s.begin).eipc = s.eipc := rfl
@[simp] theorem begin_eipsw (s : State) : (s.begin).eipsw = s.eipsw := rfl
@[simp] theorem begin_fepc (s : State) : (s.begin).fepc = s.fepc := rfl
@[simp] theorem begin_fepsw (s : State) : (s.begin).fepsw = s.fepsw := rfl
@[simp] theorem begin_ecr (s : State) : (s.begin).ecr = s.ecr := rfl
@[simp] theorem begin_psw (s : State) : (s.begin).psw = s.psw := rfl
@[simp] theorem begin_ctpc (s : State) : (s.begin).ctpc = s.ctpc := rfl
@[simp] theorem begin_ctpsw (s : State) : (s.begin).ctpsw = s.ctpsw := rfl
@[simp] theorem begin_dbpc (s : State) : (s.begin).dbpc = s.dbpc := rfl
@[simp] theorem begin_dbpsw (s : State) : (s.begin).dbpsw = s.dbpsw := rfl
@[simp] theorem begin_ctbp (s : State) : (s.begin).ctbp = s.ctbp := rfl
@[simp] theorem begin_dir (s : State) : (s.begin).dir = s.dir := rfl
@[simp] theorem begin_mem (s : State) : (s.begin).mem = s.mem := rfl
@[simp] theorem begin_halted (s : State) : (s.begin).halted = s.halted := rfl
@[simp] theorem begin_requests (s : State) : (s.begin).requests = s.requests := rfl
@[simp] theorem begin_host (s : State) : (s.begin).host = s.host := rfl
@[simp] theorem begin_product (s : State) : (s.begin).product = s.product := rfl
@[simp] theorem begin_hostAreas (s : State) : (s.begin).hostAreas = s.hostAreas := rfl
@[simp] theorem begin_acceptPoint (s : State) : s.begin.acceptPoint = true := rfl
@[simp] theorem begin_tick (s : State) : s.begin.tick = s.tick + 2 := rfl

/-! `nextTick` -/

@[simp] theorem nextTick_gr (s : State) : (s.nextTick).gr = s.gr := rfl
@[simp] theorem nextTick_pc (s : State) : (s.nextTick).pc = s.pc := rfl
@[simp] theorem nextTick_eipc (s : State) : (s.nextTick).eipc = s.eipc := rfl
@[simp] theorem nextTick_eipsw (s : State) : (s.nextTick).eipsw = s.eipsw := rfl
@[simp] theorem nextTick_fepc (s : State) : (s.nextTick).fepc = s.fepc := rfl
@[simp] theorem nextTick_fepsw (s : State) : (s.nextTick).fepsw = s.fepsw := rfl
@[simp] theorem nextTick_ecr (s : State) : (s.nextTick).ecr = s.ecr := rfl
@[simp] theorem nextTick_psw (s : State) : (s.nextTick).psw = s.psw := rfl
@[simp] theorem nextTick_ctpc (s : State) : (s.nextTick).ctpc = s.ctpc := rfl
@[simp] theorem nextTick_ctpsw (s : State) : (s.nextTick).ctpsw = s.ctpsw := rfl
@[simp] theorem nextTick_dbpc (s : State) : (s.nextTick).dbpc = s.dbpc := rfl
@[simp] theorem nextTick_dbpsw (s : State) : (s.nextTick).dbpsw = s.dbpsw := rfl
@[simp] theorem nextTick_ctbp (s : State) : (s.nextTick).ctbp = s.ctbp := rfl
@[simp] theorem nextTick_dir (s : State) : (s.nextTick).dir = s.dir := rfl
@[simp] theorem nextTick_mem (s : State) : (s.nextTick).mem = s.mem := rfl
@[simp] theorem nextTick_halted (s : State) : (s.nextTick).halted = s.halted := rfl
@[simp] theorem nextTick_acceptPoint (s : State) : (s.nextTick).acceptPoint = s.acceptPoint := rfl
@[simp] theorem nextTick_requests (s : State) : (s.nextTick).requests = s.requests := rfl
@[simp] theorem nextTick_host (s : State) : (s.nextTick).host = s.host := rfl
@[simp] theorem nextTick_product (s : State) : (s.nextTick).product = s.product := rfl
@[simp] theorem nextTick_hostAreas (s : State) : (s.nextTick).hostAreas = s.hostAreas := rfl
@[simp] theorem nextTick_tick (s : State) : s.nextTick.tick = s.tick + 1 := rfl

/-! `wake` -/

@[simp] theorem wake_gr (s : State) : (s.wake).gr = s.gr := rfl
@[simp] theorem wake_pc (s : State) : (s.wake).pc = s.pc := rfl
@[simp] theorem wake_eipc (s : State) : (s.wake).eipc = s.eipc := rfl
@[simp] theorem wake_eipsw (s : State) : (s.wake).eipsw = s.eipsw := rfl
@[simp] theorem wake_fepc (s : State) : (s.wake).fepc = s.fepc := rfl
@[simp] theorem wake_fepsw (s : State) : (s.wake).fepsw = s.fepsw := rfl
@[simp] theorem wake_ecr (s : State) : (s.wake).ecr = s.ecr := rfl
@[simp] theorem wake_psw (s : State) : (s.wake).psw = s.psw := rfl
@[simp] theorem wake_ctpc (s : State) : (s.wake).ctpc = s.ctpc := rfl
@[simp] theorem wake_ctpsw (s : State) : (s.wake).ctpsw = s.ctpsw := rfl
@[simp] theorem wake_dbpc (s : State) : (s.wake).dbpc = s.dbpc := rfl
@[simp] theorem wake_dbpsw (s : State) : (s.wake).dbpsw = s.dbpsw := rfl
@[simp] theorem wake_ctbp (s : State) : (s.wake).ctbp = s.ctbp := rfl
@[simp] theorem wake_dir (s : State) : (s.wake).dir = s.dir := rfl
@[simp] theorem wake_mem (s : State) : (s.wake).mem = s.mem := rfl
@[simp] theorem wake_acceptPoint (s : State) : (s.wake).acceptPoint = s.acceptPoint := rfl
@[simp] theorem wake_requests (s : State) : (s.wake).requests = s.requests := rfl
@[simp] theorem wake_host (s : State) : (s.wake).host = s.host := rfl
@[simp] theorem wake_product (s : State) : (s.wake).product = s.product := rfl
@[simp] theorem wake_hostAreas (s : State) : (s.wake).hostAreas = s.hostAreas := rfl
@[simp] theorem wake_tick (s : State) : (s.wake).tick = s.tick := rfl
@[simp] theorem wake_halted (s : State) : s.wake.halted = false := rfl

/-! `enterHalt` -/

@[simp] theorem enterHalt_gr (s : State) : (s.enterHalt).gr = s.gr := rfl
@[simp] theorem enterHalt_pc (s : State) : (s.enterHalt).pc = s.pc := rfl
@[simp] theorem enterHalt_eipc (s : State) : (s.enterHalt).eipc = s.eipc := rfl
@[simp] theorem enterHalt_eipsw (s : State) : (s.enterHalt).eipsw = s.eipsw := rfl
@[simp] theorem enterHalt_fepc (s : State) : (s.enterHalt).fepc = s.fepc := rfl
@[simp] theorem enterHalt_fepsw (s : State) : (s.enterHalt).fepsw = s.fepsw := rfl
@[simp] theorem enterHalt_ecr (s : State) : (s.enterHalt).ecr = s.ecr := rfl
@[simp] theorem enterHalt_psw (s : State) : (s.enterHalt).psw = s.psw := rfl
@[simp] theorem enterHalt_ctpc (s : State) : (s.enterHalt).ctpc = s.ctpc := rfl
@[simp] theorem enterHalt_ctpsw (s : State) : (s.enterHalt).ctpsw = s.ctpsw := rfl
@[simp] theorem enterHalt_dbpc (s : State) : (s.enterHalt).dbpc = s.dbpc := rfl
@[simp] theorem enterHalt_dbpsw (s : State) : (s.enterHalt).dbpsw = s.dbpsw := rfl
@[simp] theorem enterHalt_ctbp (s : State) : (s.enterHalt).ctbp = s.ctbp := rfl
@[simp] theorem enterHalt_dir (s : State) : (s.enterHalt).dir = s.dir := rfl
@[simp] theorem enterHalt_mem (s : State) : (s.enterHalt).mem = s.mem := rfl
@[simp] theorem enterHalt_acceptPoint (s : State) : (s.enterHalt).acceptPoint = s.acceptPoint := rfl
@[simp] theorem enterHalt_requests (s : State) : (s.enterHalt).requests = s.requests := rfl
@[simp] theorem enterHalt_host (s : State) : (s.enterHalt).host = s.host := rfl
@[simp] theorem enterHalt_product (s : State) : (s.enterHalt).product = s.product := rfl
@[simp] theorem enterHalt_hostAreas (s : State) : (s.enterHalt).hostAreas = s.hostAreas := rfl
@[simp] theorem enterHalt_tick (s : State) : (s.enterHalt).tick = s.tick := rfl
@[simp] theorem enterHalt_halted (s : State) : s.enterHalt.halted = true := rfl

/-! `takeInput` -/

@[simp] theorem takeInput_gr (s : State) : (s.takeInput).gr = s.gr := by
  unfold State.takeInput; split <;> rfl
@[simp] theorem takeInput_pc (s : State) : (s.takeInput).pc = s.pc := by
  unfold State.takeInput; split <;> rfl
@[simp] theorem takeInput_eipc (s : State) : (s.takeInput).eipc = s.eipc := by
  unfold State.takeInput; split <;> rfl
@[simp] theorem takeInput_eipsw (s : State) : (s.takeInput).eipsw = s.eipsw := by
  unfold State.takeInput; split <;> rfl
@[simp] theorem takeInput_fepc (s : State) : (s.takeInput).fepc = s.fepc := by
  unfold State.takeInput; split <;> rfl
@[simp] theorem takeInput_fepsw (s : State) : (s.takeInput).fepsw = s.fepsw := by
  unfold State.takeInput; split <;> rfl
@[simp] theorem takeInput_ecr (s : State) : (s.takeInput).ecr = s.ecr := by
  unfold State.takeInput; split <;> rfl
@[simp] theorem takeInput_psw (s : State) : (s.takeInput).psw = s.psw := by
  unfold State.takeInput; split <;> rfl
@[simp] theorem takeInput_ctpc (s : State) : (s.takeInput).ctpc = s.ctpc := by
  unfold State.takeInput; split <;> rfl
@[simp] theorem takeInput_ctpsw (s : State) : (s.takeInput).ctpsw = s.ctpsw := by
  unfold State.takeInput; split <;> rfl
@[simp] theorem takeInput_dbpc (s : State) : (s.takeInput).dbpc = s.dbpc := by
  unfold State.takeInput; split <;> rfl
@[simp] theorem takeInput_dbpsw (s : State) : (s.takeInput).dbpsw = s.dbpsw := by
  unfold State.takeInput; split <;> rfl
@[simp] theorem takeInput_ctbp (s : State) : (s.takeInput).ctbp = s.ctbp := by
  unfold State.takeInput; split <;> rfl
@[simp] theorem takeInput_dir (s : State) : (s.takeInput).dir = s.dir := by
  unfold State.takeInput; split <;> rfl
@[simp] theorem takeInput_mem (s : State) : (s.takeInput).mem = s.mem := by
  unfold State.takeInput; split <;> rfl
@[simp] theorem takeInput_halted (s : State) : (s.takeInput).halted = s.halted := by
  unfold State.takeInput; split <;> rfl
@[simp] theorem takeInput_acceptPoint (s : State) : (s.takeInput).acceptPoint = s.acceptPoint := by
  unfold State.takeInput; split <;> rfl
@[simp] theorem takeInput_product (s : State) : (s.takeInput).product = s.product := by
  unfold State.takeInput; split <;> rfl
@[simp] theorem takeInput_hostAreas (s : State) : (s.takeInput).hostAreas = s.hostAreas := by
  unfold State.takeInput; split <;> rfl
@[simp] theorem takeInput_tick (s : State) : (s.takeInput).tick = s.tick := by
  unfold State.takeInput; split <;> rfl

/-! `acknowledge` -/

@[simp] theorem acknowledge_gr (s : State) (e : Event) : (s.acknowledge e).gr = s.gr := by
  unfold State.acknowledge; split <;> rfl
@[simp] theorem acknowledge_pc (s : State) (e : Event) : (s.acknowledge e).pc = s.pc := by
  unfold State.acknowledge; split <;> rfl
@[simp] theorem acknowledge_eipc (s : State) (e : Event) : (s.acknowledge e).eipc = s.eipc := by
  unfold State.acknowledge; split <;> rfl
@[simp] theorem acknowledge_eipsw (s : State) (e : Event) : (s.acknowledge e).eipsw = s.eipsw := by
  unfold State.acknowledge; split <;> rfl
@[simp] theorem acknowledge_fepc (s : State) (e : Event) : (s.acknowledge e).fepc = s.fepc := by
  unfold State.acknowledge; split <;> rfl
@[simp] theorem acknowledge_fepsw (s : State) (e : Event) : (s.acknowledge e).fepsw = s.fepsw := by
  unfold State.acknowledge; split <;> rfl
@[simp] theorem acknowledge_ecr (s : State) (e : Event) : (s.acknowledge e).ecr = s.ecr := by
  unfold State.acknowledge; split <;> rfl
@[simp] theorem acknowledge_psw (s : State) (e : Event) : (s.acknowledge e).psw = s.psw := by
  unfold State.acknowledge; split <;> rfl
@[simp] theorem acknowledge_ctpc (s : State) (e : Event) : (s.acknowledge e).ctpc = s.ctpc := by
  unfold State.acknowledge; split <;> rfl
@[simp] theorem acknowledge_ctpsw (s : State) (e : Event) : (s.acknowledge e).ctpsw = s.ctpsw := by
  unfold State.acknowledge; split <;> rfl
@[simp] theorem acknowledge_dbpc (s : State) (e : Event) : (s.acknowledge e).dbpc = s.dbpc := by
  unfold State.acknowledge; split <;> rfl
@[simp] theorem acknowledge_dbpsw (s : State) (e : Event) : (s.acknowledge e).dbpsw = s.dbpsw := by
  unfold State.acknowledge; split <;> rfl
@[simp] theorem acknowledge_ctbp (s : State) (e : Event) : (s.acknowledge e).ctbp = s.ctbp := by
  unfold State.acknowledge; split <;> rfl
@[simp] theorem acknowledge_dir (s : State) (e : Event) : (s.acknowledge e).dir = s.dir := by
  unfold State.acknowledge; split <;> rfl
@[simp] theorem acknowledge_mem (s : State) (e : Event) : (s.acknowledge e).mem = s.mem := by
  unfold State.acknowledge; split <;> rfl
@[simp] theorem acknowledge_halted (s : State) (e : Event) : (s.acknowledge e).halted = s.halted := by
  unfold State.acknowledge; split <;> rfl
@[simp] theorem acknowledge_acceptPoint (s : State) (e : Event) : (s.acknowledge e).acceptPoint = s.acceptPoint := by
  unfold State.acknowledge; split <;> rfl
@[simp] theorem acknowledge_host (s : State) (e : Event) : (s.acknowledge e).host = s.host := by
  unfold State.acknowledge; split <;> rfl
@[simp] theorem acknowledge_product (s : State) (e : Event) : (s.acknowledge e).product = s.product := by
  unfold State.acknowledge; split <;> rfl
@[simp] theorem acknowledge_hostAreas (s : State) (e : Event) : (s.acknowledge e).hostAreas = s.hostAreas := by
  unfold State.acknowledge; split <;> rfl
@[simp] theorem acknowledge_tick (s : State) (e : Event) : (s.acknowledge e).tick = s.tick := by
  unfold State.acknowledge; split <;> rfl

end Sys2Proof.Machine
end

