-- ==== Sys2Proof/Laws/Ops.lean ====
section
/-! SUPPORT. For each shared operation, what an observation reads after it. -/

namespace Sys2Proof.Machine

/-! ### General registers -/

theorem reg_setReg (s : State) (r q : RegNum) (v : Word) :
    (s.setReg r v).reg q = if q = r then (if r = 0#5 then 0#32 else v) else s.reg q := by
  unfold State.reg State.setReg
  by_cases hq : q = 0#5
  · subst hq
    by_cases hr : r = 0#5
    · simp [hr]
    · simp [Ne.symm hr]
  · by_cases hr : r = 0#5
    · subst hr
      simp [hq]
    · simp only [if_neg hq, if_neg hr]
      by_cases hqr : q = r
      · subst hqr
        simp
      · rw [if_neg hqr]
        exact Vector.getElem_set_ne _ _ (fun h => hqr (BitVec.eq_of_toNat_eq h.symm))

@[simp] theorem reg_zero (s : State) : s.reg 0#5 = 0#32 := by simp [State.reg]

/-- The registers depend on the register file only. -/
theorem reg_of_gr {s t : State} (h : t.gr = s.gr) (r : RegNum) : t.reg r = s.reg r := by
  unfold State.reg
  rw [h]

theorem holds_iff (r : Area) (a : Word) : r.holds a = true ↔ r.base ≤ a.toNat ∧ a.toNat < r.base + r.size := by
  simp [Area.holds]

/-- What an address belongs to depends on the product and the devices' areas only. -/
theorem target_of_map {s t : State} (hp : t.product = s.product) (ha : t.hostAreas = s.hostAreas) (a : Word) :
    t.target a = s.target a := by
  unfold State.target
  rw [hp, ha]

/-- The flags depend on PSW only. -/
theorem flag_of_psw {s t : State} (h : t.psw = s.psw) (b : PswBit) : t.flag b = s.flag b := by
  unfold State.flag
  rw [h]

@[simp] theorem reg_setPc (s : State) (t : Word) (r : RegNum) : (s.setPc t).reg r = s.reg r :=
  reg_of_gr (by simp) r
@[simp] theorem flag_setPc (s : State) (t : Word) (f : PswBit) : (s.setPc t).flag f = s.flag f :=
  flag_of_psw (by simp) f
@[simp] theorem sysReg_setPc (s : State) (t : Word) (r : SysReg) : (s.setPc t).sysReg r = s.sysReg r := by
  cases r <;> simp [State.sysReg]
@[simp] theorem target_setPc (s : State) (t : Word) (x : Word) : (s.setPc t).target x = s.target x :=
  target_of_map (by simp) (by simp) x
@[simp] theorem inHostArea_setPc (s : State) (t : Word) (x : Word) : (s.setPc t).inHostArea x = s.inHostArea x := by
  simp [State.inHostArea]
@[simp] theorem inRam_setPc (s : State) (t : Word) (x : Word) : (s.setPc t).inRam x = s.inRam x := by
  simp [State.inRam]
@[simp] theorem reg_advance (s : State) (n : Nat) (r : RegNum) : (s.advance n).reg r = s.reg r :=
  reg_of_gr (by simp) r
@[simp] theorem flag_advance (s : State) (n : Nat) (f : PswBit) : (s.advance n).flag f = s.flag f :=
  flag_of_psw (by simp) f
@[simp] theorem sysReg_advance (s : State) (n : Nat) (r : SysReg) : (s.advance n).sysReg r = s.sysReg r := by
  cases r <;> simp [State.sysReg]
@[simp] theorem target_advance (s : State) (n : Nat) (x : Word) : (s.advance n).target x = s.target x :=
  target_of_map (by simp) (by simp) x
@[simp] theorem inHostArea_advance (s : State) (n : Nat) (x : Word) : (s.advance n).inHostArea x = s.inHostArea x := by
  simp [State.inHostArea]
@[simp] theorem inRam_advance (s : State) (n : Nat) (x : Word) : (s.advance n).inRam x = s.inRam x := by
  simp [State.inRam]
@[simp] theorem reg_setFlag (s : State) (b : PswBit) (v : Bool) (r : RegNum) : (s.setFlag b v).reg r = s.reg r :=
  reg_of_gr (by simp) r
@[simp] theorem target_setFlag (s : State) (b : PswBit) (v : Bool) (x : Word) : (s.setFlag b v).target x = s.target x :=
  target_of_map (by simp) (by simp) x
@[simp] theorem inHostArea_setFlag (s : State) (b : PswBit) (v : Bool) (x : Word) : (s.setFlag b v).inHostArea x = s.inHostArea x := by
  simp [State.inHostArea]
@[simp] theorem inRam_setFlag (s : State) (b : PswBit) (v : Bool) (x : Word) : (s.setFlag b v).inRam x = s.inRam x := by
  simp [State.inRam]
@[simp] theorem flag_setReg (s : State) (q : RegNum) (v : Word) (f : PswBit) : (s.setReg q v).flag f = s.flag f :=
  flag_of_psw (by simp) f
@[simp] theorem sysReg_setReg (s : State) (q : RegNum) (v : Word) (r : SysReg) : (s.setReg q v).sysReg r = s.sysReg r := by
  cases r <;> simp [State.sysReg]
@[simp] theorem target_setReg (s : State) (q : RegNum) (v : Word) (x : Word) : (s.setReg q v).target x = s.target x :=
  target_of_map (by simp) (by simp) x
@[simp] theorem inHostArea_setReg (s : State) (q : RegNum) (v : Word) (x : Word) : (s.setReg q v).inHostArea x = s.inHostArea x := by
  simp [State.inHostArea]
@[simp] theorem inRam_setReg (s : State) (q : RegNum) (v : Word) (x : Word) : (s.setReg q v).inRam x = s.inRam x := by
  simp [State.inRam]
@[simp] theorem reg_setSysReg (s : State) (n : SysReg) (v : Word) (r : RegNum) : (s.setSysReg n v).reg r = s.reg r :=
  reg_of_gr (by simp) r
@[simp] theorem target_setSysReg (s : State) (n : SysReg) (v : Word) (x : Word) : (s.setSysReg n v).target x = s.target x :=
  target_of_map (by simp) (by simp) x
@[simp] theorem inHostArea_setSysReg (s : State) (n : SysReg) (v : Word) (x : Word) : (s.setSysReg n v).inHostArea x = s.inHostArea x := by
  simp [State.inHostArea]
@[simp] theorem inRam_setSysReg (s : State) (n : SysReg) (v : Word) (x : Word) : (s.setSysReg n v).inRam x = s.inRam x := by
  simp [State.inRam]
@[simp] theorem reg_store1 (s : State) (a : Word) (v : Byte) (r : RegNum) : (s.store1 a v).reg r = s.reg r :=
  reg_of_gr (by simp) r
@[simp] theorem flag_store1 (s : State) (a : Word) (v : Byte) (f : PswBit) : (s.store1 a v).flag f = s.flag f :=
  flag_of_psw (by simp) f
@[simp] theorem sysReg_store1 (s : State) (a : Word) (v : Byte) (r : SysReg) : (s.store1 a v).sysReg r = s.sysReg r := by
  cases r <;> simp [State.sysReg]
@[simp] theorem target_store1 (s : State) (a : Word) (v : Byte) (x : Word) : (s.store1 a v).target x = s.target x :=
  target_of_map (by simp) (by simp) x
@[simp] theorem inHostArea_store1 (s : State) (a : Word) (v : Byte) (x : Word) : (s.store1 a v).inHostArea x = s.inHostArea x := by
  simp [State.inHostArea]
@[simp] theorem inRam_store1 (s : State) (a : Word) (v : Byte) (x : Word) : (s.store1 a v).inRam x = s.inRam x := by
  simp [State.inRam]
@[simp] theorem reg_store2 (s : State) (a : Word) (v : Half) (r : RegNum) : (s.store2 a v).reg r = s.reg r :=
  reg_of_gr (by simp) r
@[simp] theorem flag_store2 (s : State) (a : Word) (v : Half) (f : PswBit) : (s.store2 a v).flag f = s.flag f :=
  flag_of_psw (by simp) f
@[simp] theorem sysReg_store2 (s : State) (a : Word) (v : Half) (r : SysReg) : (s.store2 a v).sysReg r = s.sysReg r := by
  cases r <;> simp [State.sysReg]
@[simp] theorem target_store2 (s : State) (a : Word) (v : Half) (x : Word) : (s.store2 a v).target x = s.target x :=
  target_of_map (by simp) (by simp) x
@[simp] theorem inHostArea_store2 (s : State) (a : Word) (v : Half) (x : Word) : (s.store2 a v).inHostArea x = s.inHostArea x := by
  simp [State.inHostArea]
@[simp] theorem inRam_store2 (s : State) (a : Word) (v : Half) (x : Word) : (s.store2 a v).inRam x = s.inRam x := by
  simp [State.inRam]
@[simp] theorem reg_store4 (s : State) (a : Word) (v : Word) (r : RegNum) : (s.store4 a v).reg r = s.reg r :=
  reg_of_gr (by simp) r
@[simp] theorem flag_store4 (s : State) (a : Word) (v : Word) (f : PswBit) : (s.store4 a v).flag f = s.flag f :=
  flag_of_psw (by simp) f
@[simp] theorem sysReg_store4 (s : State) (a : Word) (v : Word) (r : SysReg) : (s.store4 a v).sysReg r = s.sysReg r := by
  cases r <;> simp [State.sysReg]
@[simp] theorem target_store4 (s : State) (a : Word) (v : Word) (x : Word) : (s.store4 a v).target x = s.target x :=
  target_of_map (by simp) (by simp) x
@[simp] theorem inHostArea_store4 (s : State) (a : Word) (v : Word) (x : Word) : (s.store4 a v).inHostArea x = s.inHostArea x := by
  simp [State.inHostArea]
@[simp] theorem inRam_store4 (s : State) (a : Word) (v : Word) (x : Word) : (s.store4 a v).inRam x = s.inRam x := by
  simp [State.inRam]
@[simp] theorem reg_withoutSampling (s : State)  (r : RegNum) : (s.withoutSampling).reg r = s.reg r :=
  reg_of_gr (by simp) r
@[simp] theorem flag_withoutSampling (s : State)  (f : PswBit) : (s.withoutSampling).flag f = s.flag f :=
  flag_of_psw (by simp) f
@[simp] theorem sysReg_withoutSampling (s : State)  (r : SysReg) : (s.withoutSampling).sysReg r = s.sysReg r := by
  cases r <;> simp [State.sysReg]
@[simp] theorem target_withoutSampling (s : State)  (x : Word) : (s.withoutSampling).target x = s.target x :=
  target_of_map (by simp) (by simp) x
@[simp] theorem inHostArea_withoutSampling (s : State)  (x : Word) : (s.withoutSampling).inHostArea x = s.inHostArea x := by
  simp [State.inHostArea]
@[simp] theorem inRam_withoutSampling (s : State)  (x : Word) : (s.withoutSampling).inRam x = s.inRam x := by
  simp [State.inRam]
@[simp] theorem reg_begin (s : State)  (r : RegNum) : (s.begin).reg r = s.reg r :=
  reg_of_gr (by simp) r
@[simp] theorem flag_begin (s : State)  (f : PswBit) : (s.begin).flag f = s.flag f :=
  flag_of_psw (by simp) f
@[simp] theorem sysReg_begin (s : State)  (r : SysReg) : (s.begin).sysReg r = s.sysReg r := by
  cases r <;> simp [State.sysReg]
@[simp] theorem target_begin (s : State)  (x : Word) : (s.begin).target x = s.target x :=
  target_of_map (by simp) (by simp) x
@[simp] theorem inHostArea_begin (s : State)  (x : Word) : (s.begin).inHostArea x = s.inHostArea x := by
  simp [State.inHostArea]
@[simp] theorem inRam_begin (s : State)  (x : Word) : (s.begin).inRam x = s.inRam x := by
  simp [State.inRam]
@[simp] theorem reg_wake (s : State)  (r : RegNum) : (s.wake).reg r = s.reg r :=
  reg_of_gr (by simp) r
@[simp] theorem flag_wake (s : State)  (f : PswBit) : (s.wake).flag f = s.flag f :=
  flag_of_psw (by simp) f
@[simp] theorem sysReg_wake (s : State)  (r : SysReg) : (s.wake).sysReg r = s.sysReg r := by
  cases r <;> simp [State.sysReg]
@[simp] theorem target_wake (s : State)  (x : Word) : (s.wake).target x = s.target x :=
  target_of_map (by simp) (by simp) x
@[simp] theorem inHostArea_wake (s : State)  (x : Word) : (s.wake).inHostArea x = s.inHostArea x := by
  simp [State.inHostArea]
@[simp] theorem inRam_wake (s : State)  (x : Word) : (s.wake).inRam x = s.inRam x := by
  simp [State.inRam]
@[simp] theorem reg_enterHalt (s : State)  (r : RegNum) : (s.enterHalt).reg r = s.reg r :=
  reg_of_gr (by simp) r
@[simp] theorem flag_enterHalt (s : State)  (f : PswBit) : (s.enterHalt).flag f = s.flag f :=
  flag_of_psw (by simp) f
@[simp] theorem sysReg_enterHalt (s : State)  (r : SysReg) : (s.enterHalt).sysReg r = s.sysReg r := by
  cases r <;> simp [State.sysReg]
@[simp] theorem target_enterHalt (s : State)  (x : Word) : (s.enterHalt).target x = s.target x :=
  target_of_map (by simp) (by simp) x
@[simp] theorem inHostArea_enterHalt (s : State)  (x : Word) : (s.enterHalt).inHostArea x = s.inHostArea x := by
  simp [State.inHostArea]
@[simp] theorem inRam_enterHalt (s : State)  (x : Word) : (s.enterHalt).inRam x = s.inRam x := by
  simp [State.inRam]
@[simp] theorem reg_takeInput (s : State)  (r : RegNum) : (s.takeInput).reg r = s.reg r :=
  reg_of_gr (by simp) r
@[simp] theorem flag_takeInput (s : State)  (f : PswBit) : (s.takeInput).flag f = s.flag f :=
  flag_of_psw (by simp) f
@[simp] theorem sysReg_takeInput (s : State)  (r : SysReg) : (s.takeInput).sysReg r = s.sysReg r := by
  cases r <;> simp [State.sysReg]
@[simp] theorem target_takeInput (s : State)  (x : Word) : (s.takeInput).target x = s.target x :=
  target_of_map (by simp) (by simp) x
@[simp] theorem inHostArea_takeInput (s : State)  (x : Word) : (s.takeInput).inHostArea x = s.inHostArea x := by
  simp [State.inHostArea]
@[simp] theorem inRam_takeInput (s : State)  (x : Word) : (s.takeInput).inRam x = s.inRam x := by
  simp [State.inRam]
@[simp] theorem reg_nextTick (s : State)  (r : RegNum) : (s.nextTick).reg r = s.reg r :=
  reg_of_gr (by simp) r
@[simp] theorem flag_nextTick (s : State)  (f : PswBit) : (s.nextTick).flag f = s.flag f :=
  flag_of_psw (by simp) f
@[simp] theorem sysReg_nextTick (s : State)  (r : SysReg) : (s.nextTick).sysReg r = s.sysReg r := by
  cases r <;> simp [State.sysReg]
@[simp] theorem target_nextTick (s : State)  (x : Word) : (s.nextTick).target x = s.target x :=
  target_of_map (by simp) (by simp) x
@[simp] theorem inHostArea_nextTick (s : State)  (x : Word) : (s.nextTick).inHostArea x = s.inHostArea x := by
  simp [State.inHostArea]
@[simp] theorem inRam_nextTick (s : State)  (x : Word) : (s.nextTick).inRam x = s.inRam x := by
  simp [State.inRam]
@[simp] theorem reg_acknowledge (s : State) (e : Event) (r : RegNum) : (s.acknowledge e).reg r = s.reg r :=
  reg_of_gr (by simp) r
@[simp] theorem flag_acknowledge (s : State) (e : Event) (f : PswBit) : (s.acknowledge e).flag f = s.flag f :=
  flag_of_psw (by simp) f
@[simp] theorem sysReg_acknowledge (s : State) (e : Event) (r : SysReg) : (s.acknowledge e).sysReg r = s.sysReg r := by
  cases r <;> simp [State.sysReg]
@[simp] theorem target_acknowledge (s : State) (e : Event) (x : Word) : (s.acknowledge e).target x = s.target x :=
  target_of_map (by simp) (by simp) x
@[simp] theorem inHostArea_acknowledge (s : State) (e : Event) (x : Word) : (s.acknowledge e).inHostArea x = s.inHostArea x := by
  simp [State.inHostArea]
@[simp] theorem inRam_acknowledge (s : State) (e : Event) (x : Word) : (s.acknowledge e).inRam x = s.inRam x := by
  simp [State.inRam]

/-! ### Flags -/

theorem index_lt (b : PswBit) : b.index < 8 := by cases b <;> decide

theorem index_inj {b c : PswBit} (h : b.index = c.index) : b = c := by
  cases b <;> cases c <;> first | rfl | exact absurd h (by decide)

theorem getLsbD_mask (b : PswBit) (i : Nat) : b.mask.getLsbD i = decide (i = b.index) := by
  have hb := index_lt b
  unfold PswBit.mask
  rw [BitVec.getLsbD_shiftLeft]
  by_cases hi : i < 32
  · by_cases hib : i < b.index
    · simp [hi, hib, Nat.ne_of_lt hib]
    · rw [BitVec.getLsbD_one]
      have : (i - b.index = 0) ↔ i = b.index := by omega
      simp [hi, hib, this]
  · simp only [hi, decide_false, Bool.false_and]
    symm
    rw [decide_eq_false_iff_not]
    omega

/-- Every bit of PSW after a flag write. -/
theorem psw_setFlag_bit (s : State) (b : PswBit) (v : Bool) (i : Nat) :
    (s.setFlag b v).psw.getLsbD i = if i = b.index then v else s.psw.getLsbD i := by
  have hb := index_lt b
  show (if v then s.psw ||| b.mask else s.psw &&& ~~~b.mask).getLsbD i = _
  cases v
  · simp only [Bool.false_eq_true, if_false, BitVec.getLsbD_and, BitVec.getLsbD_not, getLsbD_mask]
    by_cases hi : i = b.index
    · simp [hi]
    · by_cases h32 : i < 32
      · simp [hi, h32]
      · simp [hi, BitVec.getLsbD_of_ge s.psw i (by omega)]
  · simp only [if_true, BitVec.getLsbD_or, getLsbD_mask]
    by_cases hi : i = b.index <;> simp [hi]

theorem flag_setFlag (s : State) (b c : PswBit) (v : Bool) :
    (s.setFlag b v).flag c = if c = b then v else s.flag c := by
  unfold State.flag
  rw [psw_setFlag_bit]
  by_cases h : c = b
  · simp [h]
  · rw [if_neg h, if_neg (fun hi => h (index_inj hi))]

/-- A flag write leaves the reserved bits of PSW. -/
@[simp] theorem pswHigh_setFlag (s : State) (b : PswBit) (v : Bool) :
    (s.setFlag b v).psw.extractLsb' 8 24 = s.psw.extractLsb' 8 24 := by
  have hb := index_lt b
  ext i hi
  rw [BitVec.getElem_extractLsb', BitVec.getElem_extractLsb', psw_setFlag_bit, if_neg (by omega)]

theorem sysReg_setFlag (s : State) (b : PswBit) (v : Bool) (r : SysReg) (h : r ≠ .psw) :
    (s.setFlag b v).sysReg r = s.sysReg r := by
  cases r <;> first | rfl | exact absurd rfl h

/-! ### System registers -/

theorem sysReg_setSysReg (s : State) (r q : SysReg) (v : Word) :
    (s.setSysReg r v).sysReg q = if q = r then v &&& r.storedBits else s.sysReg q := by
  cases r <;> cases q <;> rfl

theorem psw_setSysReg (s : State) (r : SysReg) (v : Word) :
    (s.setSysReg r v).psw = if r = .psw then v &&& 0x000000FF#32 else s.psw := by
  cases r <;> rfl

theorem flag_setSysReg (s : State) (r : SysReg) (v : Word) (h : r ≠ .psw) (b : PswBit) :
    (s.setSysReg r v).flag b = s.flag b :=
  flag_of_psw (by rw [psw_setSysReg, if_neg h]) b

/-! ### Program counter -/

theorem reducePc_bit (t : Word) (i : Nat) :
    (reducePc t).getLsbD i = (decide (1 ≤ i ∧ i < 26) && t.getLsbD i) := by
  unfold reducePc
  rw [BitVec.getLsbD_and, Bool.and_comm]
  congr 1
  by_cases h : i < 32
  · interval_cases i <;> decide
  · rw [BitVec.getLsbD_of_ge _ _ (by omega)]
    symm
    rw [decide_eq_false_iff_not]
    omega

theorem isPc_reducePc (t : Word) : isPc (reducePc t) := by
  unfold isPc reducePc
  rw [BitVec.and_assoc]
  simp

theorem advance_pc (s : State) (n : Nat) : (s.advance n).pc = s.nextPc n := rfl

/-! ### Memory -/

theorem read_store1 (s : State) (h : s.mem.wf = true) (a : Word) (v : Byte) (b : Nat) :
    (s.store1 a v).mem.read b = if b = a.toNat ∧ s.inRam a = true then v else s.mem.read b := by
  unfold State.store1
  cases hh : s.inRam a
  · simp
  · simp [read_write h]

/-- RAM is answered for by memory. -/
theorem inHostArea_of_inRam {s : State} {a : Word} (h : s.inRam a = true) : s.inHostArea a = false := by
  unfold State.inRam State.inHostArea at *
  simp_all

/-- A read outside the host areas reads the cell. -/
theorem byteAt_memory {s : State} {a : Word} (h : s.inHostArea a = false) : s.byteAt a = s.mem.read a.toNat := by
  unfold State.byteAt
  simp [h]

/-- The half-word of a fetch from memory. -/
theorem fetchHalf_memory {s : State} {k : Nat} (h0 : s.inHostArea (s.fetchAddress k) = false)
    (h1 : s.inHostArea (s.fetchAddress k + 1#32) = false) :
    s.fetchHalf k = s.mem.read (s.fetchAddress k + 1#32).toNat ++ s.mem.read (s.fetchAddress k).toNat := by
  unfold State.fetchHalf State.load2
  rw [byteAt_memory (by simpa using h1), byteAt_memory (by simpa using h0), nextTick_mem]

theorem wf_store1 (s : State) (h : s.mem.wf = true) (a : Word) (v : Byte) : (s.store1 a v).mem.wf = true := by
  unfold State.store1
  split
  · exact wf_write h a.isLt
  · exact h

theorem wf_store2 (s : State) (h : s.mem.wf = true) (a : Word) (v : Half) : (s.store2 a v).mem.wf = true :=
  wf_store1 _ (wf_store1 _ h _ _) _ _

theorem wf_store4 (s : State) (h : s.mem.wf = true) (a v : Word) : (s.store4 a v).mem.wf = true :=
  wf_store1 _ (wf_store1 _ (wf_store1 _ (wf_store1 _ h _ _) _ _) _ _) _ _

theorem wf_pushRegs (s : State) (h : s.mem.wf = true) (t : Word) (l : List RegNum) :
    (s.pushRegs t l).mem.wf = true := by
  induction l generalizing s t with
  | nil => exact h
  | cons r rest ih => exact ih _ (wf_store4 s h _ _) _

/-! ### The loops of PREPARE and DISPOSE -/

@[simp] theorem pushRegs_pc (s : State) (t : Word) (l : List RegNum) : (s.pushRegs t l).pc = s.pc := by
  induction l generalizing s t with
  | nil => rfl
  | cons r rest ih => exact (ih _ _).trans (by simp)

@[simp] theorem pushRegs_eipc (s : State) (t : Word) (l : List RegNum) : (s.pushRegs t l).eipc = s.eipc := by
  induction l generalizing s t with
  | nil => rfl
  | cons r rest ih => exact (ih _ _).trans (by simp)

@[simp] theorem pushRegs_eipsw (s : State) (t : Word) (l : List RegNum) : (s.pushRegs t l).eipsw = s.eipsw := by
  induction l generalizing s t with
  | nil => rfl
  | cons r rest ih => exact (ih _ _).trans (by simp)

@[simp] theorem pushRegs_fepc (s : State) (t : Word) (l : List RegNum) : (s.pushRegs t l).fepc = s.fepc := by
  induction l generalizing s t with
  | nil => rfl
  | cons r rest ih => exact (ih _ _).trans (by simp)

@[simp] theorem pushRegs_fepsw (s : State) (t : Word) (l : List RegNum) : (s.pushRegs t l).fepsw = s.fepsw := by
  induction l generalizing s t with
  | nil => rfl
  | cons r rest ih => exact (ih _ _).trans (by simp)

@[simp] theorem pushRegs_ecr (s : State) (t : Word) (l : List RegNum) : (s.pushRegs t l).ecr = s.ecr := by
  induction l generalizing s t with
  | nil => rfl
  | cons r rest ih => exact (ih _ _).trans (by simp)

@[simp] theorem pushRegs_psw (s : State) (t : Word) (l : List RegNum) : (s.pushRegs t l).psw = s.psw := by
  induction l generalizing s t with
  | nil => rfl
  | cons r rest ih => exact (ih _ _).trans (by simp)

@[simp] theorem pushRegs_ctpc (s : State) (t : Word) (l : List RegNum) : (s.pushRegs t l).ctpc = s.ctpc := by
  induction l generalizing s t with
  | nil => rfl
  | cons r rest ih => exact (ih _ _).trans (by simp)

@[simp] theorem pushRegs_ctpsw (s : State) (t : Word) (l : List RegNum) : (s.pushRegs t l).ctpsw = s.ctpsw := by
  induction l generalizing s t with
  | nil => rfl
  | cons r rest ih => exact (ih _ _).trans (by simp)

@[simp] theorem pushRegs_dbpc (s : State) (t : Word) (l : List RegNum) : (s.pushRegs t l).dbpc = s.dbpc := by
  induction l generalizing s t with
  | nil => rfl
  | cons r rest ih => exact (ih _ _).trans (by simp)

@[simp] theorem pushRegs_dbpsw (s : State) (t : Word) (l : List RegNum) : (s.pushRegs t l).dbpsw = s.dbpsw := by
  induction l generalizing s t with
  | nil => rfl
  | cons r rest ih => exact (ih _ _).trans (by simp)

@[simp] theorem pushRegs_ctbp (s : State) (t : Word) (l : List RegNum) : (s.pushRegs t l).ctbp = s.ctbp := by
  induction l generalizing s t with
  | nil => rfl
  | cons r rest ih => exact (ih _ _).trans (by simp)

@[simp] theorem pushRegs_dir (s : State) (t : Word) (l : List RegNum) : (s.pushRegs t l).dir = s.dir := by
  induction l generalizing s t with
  | nil => rfl
  | cons r rest ih => exact (ih _ _).trans (by simp)

@[simp] theorem pushRegs_halted (s : State) (t : Word) (l : List RegNum) : (s.pushRegs t l).halted = s.halted := by
  induction l generalizing s t with
  | nil => rfl
  | cons r rest ih => exact (ih _ _).trans (by simp)

@[simp] theorem pushRegs_acceptPoint (s : State) (t : Word) (l : List RegNum) : (s.pushRegs t l).acceptPoint = s.acceptPoint := by
  induction l generalizing s t with
  | nil => rfl
  | cons r rest ih => exact (ih _ _).trans (by simp)

@[simp] theorem pushRegs_requests (s : State) (t : Word) (l : List RegNum) : (s.pushRegs t l).requests = s.requests := by
  induction l generalizing s t with
  | nil => rfl
  | cons r rest ih => exact (ih _ _).trans (by simp)

@[simp] theorem pushRegs_host (s : State) (t : Word) (l : List RegNum) : (s.pushRegs t l).host = s.host := by
  induction l generalizing s t with
  | nil => rfl
  | cons r rest ih => exact (ih _ _).trans (by simp)

@[simp] theorem pushRegs_product (s : State) (t : Word) (l : List RegNum) : (s.pushRegs t l).product = s.product := by
  induction l generalizing s t with
  | nil => rfl
  | cons r rest ih => exact (ih _ _).trans (by simp)

@[simp] theorem pushRegs_hostAreas (s : State) (t : Word) (l : List RegNum) : (s.pushRegs t l).hostAreas = s.hostAreas := by
  induction l generalizing s t with
  | nil => rfl
  | cons r rest ih => exact (ih _ _).trans (by simp)

@[simp] theorem pushRegs_tick (s : State) (t : Word) (l : List RegNum) : (s.pushRegs t l).tick = s.tick := by
  induction l generalizing s t with
  | nil => rfl
  | cons r rest ih => exact (ih _ _).trans (by simp)

@[simp] theorem pushRegs_gr (s : State) (t : Word) (l : List RegNum) : (s.pushRegs t l).gr = s.gr := by
  induction l generalizing s t with
  | nil => rfl
  | cons r rest ih => exact (ih _ _).trans (by simp)

@[simp] theorem popRegs_pc (s : State) (t : Word) (l : List RegNum) : (s.popRegs t l).pc = s.pc := by
  induction l generalizing s t with
  | nil => rfl
  | cons r rest ih => exact (ih _ _).trans (by simp)

@[simp] theorem popRegs_eipc (s : State) (t : Word) (l : List RegNum) : (s.popRegs t l).eipc = s.eipc := by
  induction l generalizing s t with
  | nil => rfl
  | cons r rest ih => exact (ih _ _).trans (by simp)

@[simp] theorem popRegs_eipsw (s : State) (t : Word) (l : List RegNum) : (s.popRegs t l).eipsw = s.eipsw := by
  induction l generalizing s t with
  | nil => rfl
  | cons r rest ih => exact (ih _ _).trans (by simp)

@[simp] theorem popRegs_fepc (s : State) (t : Word) (l : List RegNum) : (s.popRegs t l).fepc = s.fepc := by
  induction l generalizing s t with
  | nil => rfl
  | cons r rest ih => exact (ih _ _).trans (by simp)

@[simp] theorem popRegs_fepsw (s : State) (t : Word) (l : List RegNum) : (s.popRegs t l).fepsw = s.fepsw := by
  induction l generalizing s t with
  | nil => rfl
  | cons r rest ih => exact (ih _ _).trans (by simp)

@[simp] theorem popRegs_ecr (s : State) (t : Word) (l : List RegNum) : (s.popRegs t l).ecr = s.ecr := by
  induction l generalizing s t with
  | nil => rfl
  | cons r rest ih => exact (ih _ _).trans (by simp)

@[simp] theorem popRegs_psw (s : State) (t : Word) (l : List RegNum) : (s.popRegs t l).psw = s.psw := by
  induction l generalizing s t with
  | nil => rfl
  | cons r rest ih => exact (ih _ _).trans (by simp)

@[simp] theorem popRegs_ctpc (s : State) (t : Word) (l : List RegNum) : (s.popRegs t l).ctpc = s.ctpc := by
  induction l generalizing s t with
  | nil => rfl
  | cons r rest ih => exact (ih _ _).trans (by simp)

@[simp] theorem popRegs_ctpsw (s : State) (t : Word) (l : List RegNum) : (s.popRegs t l).ctpsw = s.ctpsw := by
  induction l generalizing s t with
  | nil => rfl
  | cons r rest ih => exact (ih _ _).trans (by simp)

@[simp] theorem popRegs_dbpc (s : State) (t : Word) (l : List RegNum) : (s.popRegs t l).dbpc = s.dbpc := by
  induction l generalizing s t with
  | nil => rfl
  | cons r rest ih => exact (ih _ _).trans (by simp)

@[simp] theorem popRegs_dbpsw (s : State) (t : Word) (l : List RegNum) : (s.popRegs t l).dbpsw = s.dbpsw := by
  induction l generalizing s t with
  | nil => rfl
  | cons r rest ih => exact (ih _ _).trans (by simp)

@[simp] theorem popRegs_ctbp (s : State) (t : Word) (l : List RegNum) : (s.popRegs t l).ctbp = s.ctbp := by
  induction l generalizing s t with
  | nil => rfl
  | cons r rest ih => exact (ih _ _).trans (by simp)

@[simp] theorem popRegs_dir (s : State) (t : Word) (l : List RegNum) : (s.popRegs t l).dir = s.dir := by
  induction l generalizing s t with
  | nil => rfl
  | cons r rest ih => exact (ih _ _).trans (by simp)

@[simp] theorem popRegs_halted (s : State) (t : Word) (l : List RegNum) : (s.popRegs t l).halted = s.halted := by
  induction l generalizing s t with
  | nil => rfl
  | cons r rest ih => exact (ih _ _).trans (by simp)

@[simp] theorem popRegs_acceptPoint (s : State) (t : Word) (l : List RegNum) : (s.popRegs t l).acceptPoint = s.acceptPoint := by
  induction l generalizing s t with
  | nil => rfl
  | cons r rest ih => exact (ih _ _).trans (by simp)

@[simp] theorem popRegs_requests (s : State) (t : Word) (l : List RegNum) : (s.popRegs t l).requests = s.requests := by
  induction l generalizing s t with
  | nil => rfl
  | cons r rest ih => exact (ih _ _).trans (by simp)

@[simp] theorem popRegs_host (s : State) (t : Word) (l : List RegNum) : (s.popRegs t l).host = s.host := by
  induction l generalizing s t with
  | nil => rfl
  | cons r rest ih => exact (ih _ _).trans (by simp)

@[simp] theorem popRegs_product (s : State) (t : Word) (l : List RegNum) : (s.popRegs t l).product = s.product := by
  induction l generalizing s t with
  | nil => rfl
  | cons r rest ih => exact (ih _ _).trans (by simp)

@[simp] theorem popRegs_hostAreas (s : State) (t : Word) (l : List RegNum) : (s.popRegs t l).hostAreas = s.hostAreas := by
  induction l generalizing s t with
  | nil => rfl
  | cons r rest ih => exact (ih _ _).trans (by simp)

@[simp] theorem popRegs_tick (s : State) (t : Word) (l : List RegNum) : (s.popRegs t l).tick = s.tick := by
  induction l generalizing s t with
  | nil => rfl
  | cons r rest ih => exact (ih _ _).trans (by simp)

@[simp] theorem popRegs_mem (s : State) (t : Word) (l : List RegNum) : (s.popRegs t l).mem = s.mem := by
  induction l generalizing s t with
  | nil => rfl
  | cons r rest ih => exact (ih _ _).trans (by simp)

@[simp] theorem reg_pushRegs (s : State) (t : Word) (l : List RegNum) (r : RegNum) :
    (s.pushRegs t l).reg r = s.reg r :=
  reg_of_gr (by simp) r

@[simp] theorem flag_pushRegs (s : State) (t : Word) (l : List RegNum) (f : PswBit) :
    (s.pushRegs t l).flag f = s.flag f :=
  flag_of_psw (by simp) f

@[simp] theorem sysReg_pushRegs (s : State) (t : Word) (l : List RegNum) (r : SysReg) :
    (s.pushRegs t l).sysReg r = s.sysReg r := by
  cases r <;> simp [State.sysReg]

@[simp] theorem target_pushRegs (s : State) (t : Word) (l : List RegNum) (x : Word) :
    (s.pushRegs t l).target x = s.target x :=
  target_of_map (by simp) (by simp) x

@[simp] theorem inHostArea_pushRegs (s : State) (t : Word) (l : List RegNum) (x : Word) :
    (s.pushRegs t l).inHostArea x = s.inHostArea x := by
  simp [State.inHostArea]

@[simp] theorem inRam_pushRegs (s : State) (t : Word) (l : List RegNum) (x : Word) :
    (s.pushRegs t l).inRam x = s.inRam x := by
  simp [State.inRam]

@[simp] theorem flag_popRegs (s : State) (t : Word) (l : List RegNum) (f : PswBit) :
    (s.popRegs t l).flag f = s.flag f :=
  flag_of_psw (by simp) f

@[simp] theorem sysReg_popRegs (s : State) (t : Word) (l : List RegNum) (r : SysReg) :
    (s.popRegs t l).sysReg r = s.sysReg r := by
  cases r <;> simp [State.sysReg]

@[simp] theorem target_popRegs (s : State) (t : Word) (l : List RegNum) (x : Word) :
    (s.popRegs t l).target x = s.target x :=
  target_of_map (by simp) (by simp) x

@[simp] theorem inHostArea_popRegs (s : State) (t : Word) (l : List RegNum) (x : Word) :
    (s.popRegs t l).inHostArea x = s.inHostArea x := by
  simp [State.inHostArea]

@[simp] theorem inRam_popRegs (s : State) (t : Word) (l : List RegNum) (x : Word) :
    (s.popRegs t l).inRam x = s.inRam x := by
  simp [State.inRam]

end Sys2Proof.Machine
end

