-- ==== Sys2Proof/Laws/Invariant.lean ====
section
/-! SUPPORT. Every named operation keeps the invariant `State.Inv` of Safety.lean. -/

namespace Sys2Proof.Machine

theorem inv_setReg {s : State} (h : s.Inv) (r : RegNum) (v : Word) : (s.setReg r v).Inv := by
  unfold State.setReg
  split
  · exact h
  · rename_i hr
    have hn : r.toNat ≠ 0 := fun hc => hr (BitVec.eq_of_toNat_eq (by simpa using hc))
    exact { h with r0 := by simpa [Vector.getElem_set, hn] using h.r0 }

theorem inv_setPc {s : State} (h : s.Inv) (t : Word) : (s.setPc t).Inv := { h with pc := isPc_reducePc t }

theorem inv_advance {s : State} (h : s.Inv) (n : Nat) : (s.advance n).Inv := inv_setPc h _

theorem inv_setFlag {s : State} (h : s.Inv) (b : PswBit) (v : Bool) : (s.setFlag b v).Inv := by
  refine { h with psw := ?_ }
  have h0 := h.psw
  apply BitVec.eq_of_getLsbD_eq
  intro i hi
  have hb := congrArg (fun w : Word => w.getLsbD i) h0
  simp only [BitVec.getLsbD_and, BitVec.getLsbD_zero] at hb ⊢
  rw [psw_setFlag_bit]
  have hidx := index_lt b
  by_cases hib : i = b.index
  · have : (0xFFFFFF00#32).getLsbD i = false := by
      subst hib
      cases b <;> decide
    simp [this]
  · simpa [hib] using hb

theorem inv_setFlags {s : State} (h : s.Inv) (f : Flagged) : (s.setFlags f).Inv :=
  inv_setFlag (inv_setFlag (inv_setFlag (inv_setFlag h _ _) _ _) _ _) _ _

theorem inv_setDivisionFlags {s : State} (h : s.Inv) (d : Division) : (s.setDivisionFlags d).Inv :=
  inv_setFlag (inv_setFlag (inv_setFlag h _ _) _ _) _ _

theorem inv_setLogicFlags {s : State} (h : s.Inv) (res : Word) : (s.setLogicFlags res).Inv :=
  inv_setFlag (inv_setFlag (inv_setFlag h _ _) _ _) _ _

theorem inv_setSaturatedFlags {s : State} (h : s.Inv) (f : Flagged) : (s.setSaturatedFlags f).Inv := by
  unfold State.setSaturatedFlags
  split
  · exact inv_setFlag (inv_setFlags h _) _ _
  · exact inv_setFlags h _

theorem inv_setSysReg {s : State} (h : s.Inv) (r : SysReg) (v : Word) : (s.setSysReg r v).Inv := by
  have key : ∀ m k : Word, m &&& k = 0#32 → (v &&& m) &&& k = 0#32 := fun m k hmk => by
    rw [BitVec.and_assoc, hmk, BitVec.and_zero]
  cases r
  · exact { h with eipc := key _ _ (by decide) }
  · exact { h with eipsw := key _ _ (by decide) }
  · exact { h with fepc := key _ _ (by decide) }
  · exact { h with fepsw := key _ _ (by decide) }
  · exact { h with }
  · exact { h with psw := key _ _ (by decide) }
  · exact { h with ctpc := key _ _ (by decide) }
  · exact { h with ctpsw := key _ _ (by decide) }
  · exact { h with dbpc := key _ _ (by decide) }
  · exact { h with dbpsw := key _ _ (by decide) }
  · exact { h with ctbp := key _ _ (by decide) }
  · exact { h with dir := key _ _ (by decide) }

theorem inv_store1 {s : State} (h : s.Inv) (a : Word) (v : Byte) : (s.store1 a v).Inv := by
  have hw := wf_store1 s h.mem a v
  unfold State.store1 at hw ⊢
  split
  · rename_i hh
    simp only [hh, if_true] at hw
    exact { h with mem := hw }
  · exact h

theorem inv_store2 {s : State} (h : s.Inv) (a : Word) (v : Half) : (s.store2 a v).Inv := inv_store1 (inv_store1 h _ _) _ _

theorem inv_store4 {s : State} (h : s.Inv) (a v : Word) : (s.store4 a v).Inv :=
  inv_store1 (inv_store1 (inv_store1 (inv_store1 h _ _) _ _) _ _) _ _

theorem inv_pushRegs {s : State} (h : s.Inv) (t : Word) (l : List RegNum) : (s.pushRegs t l).Inv := by
  induction l generalizing s t with
  | nil => exact h
  | cons r rest ih => exact ih (inv_store4 h _ _) _

theorem inv_popRegs {s : State} (h : s.Inv) (t : Word) (l : List RegNum) : (s.popRegs t l).Inv := by
  induction l generalizing s t with
  | nil => exact h
  | cons r rest ih => exact ih (inv_setReg h _ _) _

theorem inv_withoutSampling {s : State} (h : s.Inv) : s.withoutSampling.Inv := { h with }

theorem inv_begin {s : State} (h : s.Inv) : s.begin.Inv := { h with }

theorem inv_wake {s : State} (h : s.Inv) : s.wake.Inv := { h with }

theorem inv_enterHalt {s : State} (h : s.Inv) : s.enterHalt.Inv := { h with }

theorem inv_takeInput {s : State} (h : s.Inv) : s.takeInput.Inv := by
  unfold State.takeInput
  split <;> exact { h with }

theorem inv_acknowledge {s : State} (h : s.Inv) (e : Event) : (s.acknowledge e).Inv := by
  unfold State.acknowledge
  split
  · exact { h with }
  · exact { h with }
  · exact { h with }
  · exact { h with }
  all_goals exact h

theorem inv_raise {s : State} (h : s.Inv) (e : Event) (rpc : Word) : (s.raise e rpc).Inv := by
  cases e
  · exact inv_setPc (inv_setFlag (inv_setFlag (inv_setFlag (inv_setSysReg (inv_setSysReg (inv_setSysReg h _ _) _ _) _ _)
      _ _) _ _) _ _) _
  · exact inv_setPc (inv_setFlag (inv_setFlag (inv_setSysReg (inv_setSysReg (inv_setSysReg h _ _) _ _) _ _) _ _) _ _) _
  · exact inv_setPc (inv_setFlag (inv_setFlag (inv_setSysReg (inv_setSysReg (inv_setSysReg h _ _) _ _) _ _) _ _) _ _) _
  · exact inv_setPc (inv_setSysReg (inv_setFlag (inv_setFlag (inv_setFlag (inv_setSysReg (inv_setSysReg h _ _) _ _)
      _ _) _ _) _ _) _ _) _
  · exact inv_setPc (inv_setSysReg (inv_setFlag (inv_setFlag (inv_setFlag (inv_setSysReg (inv_setSysReg h _ _) _ _)
      _ _) _ _) _ _) _ _) _

theorem inv_returnFrom {s : State} (h : s.Inv) (p q : SysReg) : (s.returnFrom p q).Inv :=
  inv_setPc (inv_setSysReg h _ _) _

theorem inv_accept {s : State} (h : s.Inv) (e : Event) : (s.accept e).Inv :=
  inv_withoutSampling (inv_acknowledge (inv_raise h _ _) _)

end Sys2Proof.Machine
end

