-- ==== Sys2Proof/Laws/PerInstr.lean ====
section
/-! SUPPORT. A statement for all instructions, one lemma for each: the words of an instruction fill its length. -/

namespace Sys2Proof.Laws.EncodeLength

/-- The half-words that the encoder writes are as many bytes as the instruction is long (30_encoding.md R141, R174). -/
def Statement (i : Instr) : Prop := 2 * (encode i).length = i.length

theorem nop : Statement .nop := rfl
theorem movReg (reg1 reg2 : RegNum) : Statement (.movReg reg1 reg2) := rfl
theorem notReg (reg1 reg2 : RegNum) : Statement (.notReg reg1 reg2) := rfl
theorem divhReg (reg1 reg2 : RegNum) : Statement (.divhReg reg1 reg2) := rfl
theorem switch (reg1 : RegNum) : Statement (.switch reg1) := rfl
theorem jmp (reg1 : RegNum) : Statement (.jmp reg1) := rfl
theorem satsubr (reg1 reg2 : RegNum) : Statement (.satsubr reg1 reg2) := rfl
theorem satsub (reg1 reg2 : RegNum) : Statement (.satsub reg1 reg2) := rfl
theorem sataddReg (reg1 reg2 : RegNum) : Statement (.sataddReg reg1 reg2) := rfl
theorem mulhReg (reg1 reg2 : RegNum) : Statement (.mulhReg reg1 reg2) := rfl
theorem zxb (reg1 : RegNum) : Statement (.zxb reg1) := rfl
theorem sxb (reg1 : RegNum) : Statement (.sxb reg1) := rfl
theorem zxh (reg1 : RegNum) : Statement (.zxh reg1) := rfl
theorem sxh (reg1 : RegNum) : Statement (.sxh reg1) := rfl
theorem orReg (reg1 reg2 : RegNum) : Statement (.orReg reg1 reg2) := rfl
theorem xorReg (reg1 reg2 : RegNum) : Statement (.xorReg reg1 reg2) := rfl
theorem andReg (reg1 reg2 : RegNum) : Statement (.andReg reg1 reg2) := rfl
theorem tst (reg1 reg2 : RegNum) : Statement (.tst reg1 reg2) := rfl
theorem subr (reg1 reg2 : RegNum) : Statement (.subr reg1 reg2) := rfl
theorem sub (reg1 reg2 : RegNum) : Statement (.sub reg1 reg2) := rfl
theorem addReg (reg1 reg2 : RegNum) : Statement (.addReg reg1 reg2) := rfl
theorem cmpReg (reg1 reg2 : RegNum) : Statement (.cmpReg reg1 reg2) := rfl
theorem dbtrap : Statement .dbtrap := rfl
theorem movImm5 (imm5 : BitVec 5) (reg2 : RegNum) : Statement (.movImm5 imm5 reg2) := rfl
theorem sataddImm5 (imm5 : BitVec 5) (reg2 : RegNum) : Statement (.sataddImm5 imm5 reg2) := rfl
theorem addImm5 (imm5 : BitVec 5) (reg2 : RegNum) : Statement (.addImm5 imm5 reg2) := rfl
theorem cmpImm5 (imm5 : BitVec 5) (reg2 : RegNum) : Statement (.cmpImm5 imm5 reg2) := rfl
theorem callt (imm6 : BitVec 6) : Statement (.callt imm6) := rfl
theorem shrImm5 (imm5 : BitVec 5) (reg2 : RegNum) : Statement (.shrImm5 imm5 reg2) := rfl
theorem sarImm5 (imm5 : BitVec 5) (reg2 : RegNum) : Statement (.sarImm5 imm5 reg2) := rfl
theorem shlImm5 (imm5 : BitVec 5) (reg2 : RegNum) : Statement (.shlImm5 imm5 reg2) := rfl
theorem mulhImm5 (imm5 : BitVec 5) (reg2 : RegNum) : Statement (.mulhImm5 imm5 reg2) := rfl
theorem bcond (cond : Cond) (disp9 : BitVec 9) : Statement (.bcond cond disp9) := rfl
theorem sldBu (disp4 : BitVec 4) (reg2 : RegNum) : Statement (.sldBu disp4 reg2) := rfl
theorem sldHu (disp5 : BitVec 5) (reg2 : RegNum) : Statement (.sldHu disp5 reg2) := rfl
theorem sldB (disp7 : BitVec 7) (reg2 : RegNum) : Statement (.sldB disp7 reg2) := rfl
theorem sstB (reg2 : RegNum) (disp7 : BitVec 7) : Statement (.sstB reg2 disp7) := rfl
theorem sldH (disp8 : BitVec 8) (reg2 : RegNum) : Statement (.sldH disp8 reg2) := rfl
theorem sstH (reg2 : RegNum) (disp8 : BitVec 8) : Statement (.sstH reg2 disp8) := rfl
theorem sldW (disp8 : BitVec 8) (reg2 : RegNum) : Statement (.sldW disp8 reg2) := rfl
theorem sstW (reg2 : RegNum) (disp8 : BitVec 8) : Statement (.sstW reg2 disp8) := rfl
theorem jarl (disp22 : BitVec 22) (reg2 : RegNum) : Statement (.jarl disp22 reg2) := rfl
theorem jr (disp22 : BitVec 22) : Statement (.jr disp22) := rfl
theorem addi (imm16 : Half) (reg1 reg2 : RegNum) : Statement (.addi imm16 reg1 reg2) := rfl
theorem movea (imm16 : Half) (reg1 reg2 : RegNum) : Statement (.movea imm16 reg1 reg2) := rfl
theorem movhi (imm16 : Half) (reg1 reg2 : RegNum) : Statement (.movhi imm16 reg1 reg2) := rfl
theorem satsubi (imm16 : Half) (reg1 reg2 : RegNum) : Statement (.satsubi imm16 reg1 reg2) := rfl
theorem movImm32 (imm32 : Word) (reg1 : RegNum) : Statement (.movImm32 imm32 reg1) := rfl
theorem ori (imm16 : Half) (reg1 reg2 : RegNum) : Statement (.ori imm16 reg1 reg2) := rfl
theorem xori (imm16 : Half) (reg1 reg2 : RegNum) : Statement (.xori imm16 reg1 reg2) := rfl
theorem andi (imm16 : Half) (reg1 reg2 : RegNum) : Statement (.andi imm16 reg1 reg2) := rfl
theorem mulhi (imm16 : Half) (reg1 reg2 : RegNum) : Statement (.mulhi imm16 reg1 reg2) := rfl
theorem ldB (disp16 : Half) (reg1 reg2 : RegNum) : Statement (.ldB disp16 reg1 reg2) := rfl
theorem ldH (disp16 : Half) (reg1 reg2 : RegNum) : Statement (.ldH disp16 reg1 reg2) := rfl
theorem ldW (disp16 : Half) (reg1 reg2 : RegNum) : Statement (.ldW disp16 reg1 reg2) := rfl
theorem stB (reg2 : RegNum) (disp16 : Half) (reg1 : RegNum) : Statement (.stB reg2 disp16 reg1) := rfl
theorem stH (reg2 : RegNum) (disp16 : Half) (reg1 : RegNum) : Statement (.stH reg2 disp16 reg1) := rfl
theorem stW (reg2 : RegNum) (disp16 : Half) (reg1 : RegNum) : Statement (.stW reg2 disp16 reg1) := rfl
theorem ldBu (disp16 : Half) (reg1 reg2 : RegNum) : Statement (.ldBu disp16 reg1 reg2) := rfl
theorem ldHu (disp16 : Half) (reg1 reg2 : RegNum) : Statement (.ldHu disp16 reg1 reg2) := rfl
theorem set1Disp (bit3 : BitVec 3) (disp16 : Half) (reg1 : RegNum) : Statement (.set1Disp bit3 disp16 reg1) := rfl
theorem not1Disp (bit3 : BitVec 3) (disp16 : Half) (reg1 : RegNum) : Statement (.not1Disp bit3 disp16 reg1) := rfl
theorem clr1Disp (bit3 : BitVec 3) (disp16 : Half) (reg1 : RegNum) : Statement (.clr1Disp bit3 disp16 reg1) := rfl
theorem tst1Disp (bit3 : BitVec 3) (disp16 : Half) (reg1 : RegNum) : Statement (.tst1Disp bit3 disp16 reg1) := rfl
theorem setf (cond : Cond) (reg2 : RegNum) : Statement (.setf cond reg2) := rfl
theorem ldsr (reg2 : RegNum) (regID : BitVec 5) : Statement (.ldsr reg2 regID) := rfl
theorem stsr (regID : BitVec 5) (reg2 : RegNum) : Statement (.stsr regID reg2) := rfl
theorem shrReg (reg1 reg2 : RegNum) : Statement (.shrReg reg1 reg2) := rfl
theorem sarReg (reg1 reg2 : RegNum) : Statement (.sarReg reg1 reg2) := rfl
theorem shlReg (reg1 reg2 : RegNum) : Statement (.shlReg reg1 reg2) := rfl
theorem set1Reg (reg2 reg1 : RegNum) : Statement (.set1Reg reg2 reg1) := rfl
theorem not1Reg (reg2 reg1 : RegNum) : Statement (.not1Reg reg2 reg1) := rfl
theorem clr1Reg (reg2 reg1 : RegNum) : Statement (.clr1Reg reg2 reg1) := rfl
theorem tst1Reg (reg2 reg1 : RegNum) : Statement (.tst1Reg reg2 reg1) := rfl
theorem sasf (cond : Cond) (reg2 : RegNum) : Statement (.sasf cond reg2) := rfl
theorem trap (vector : BitVec 5) : Statement (.trap vector) := rfl
theorem halt : Statement .halt := rfl
theorem reti : Statement .reti := rfl
theorem ctret : Statement .ctret := rfl
theorem dbret : Statement .dbret := rfl
theorem di : Statement .di := rfl
theorem ei : Statement .ei := rfl
theorem mulReg (reg1 reg2 reg3 : RegNum) : Statement (.mulReg reg1 reg2 reg3) := rfl
theorem muluReg (reg1 reg2 reg3 : RegNum) : Statement (.muluReg reg1 reg2 reg3) := rfl
theorem divhReg3 (reg1 reg2 reg3 : RegNum) : Statement (.divhReg3 reg1 reg2 reg3) := rfl
theorem divhu (reg1 reg2 reg3 : RegNum) : Statement (.divhu reg1 reg2 reg3) := rfl
theorem div (reg1 reg2 reg3 : RegNum) : Statement (.div reg1 reg2 reg3) := rfl
theorem divu (reg1 reg2 reg3 : RegNum) : Statement (.divu reg1 reg2 reg3) := rfl
theorem cmovReg (cond : Cond) (reg1 reg2 reg3 : RegNum) : Statement (.cmovReg cond reg1 reg2 reg3) := rfl
theorem mulImm9 (imm9 : BitVec 9) (reg2 reg3 : RegNum) : Statement (.mulImm9 imm9 reg2 reg3) := rfl
theorem muluImm9 (imm9 : BitVec 9) (reg2 reg3 : RegNum) : Statement (.muluImm9 imm9 reg2 reg3) := rfl
theorem cmovImm5 (cond : Cond) (imm5 : BitVec 5) (reg2 reg3 : RegNum) : Statement (.cmovImm5 cond imm5 reg2 reg3) := rfl
theorem bsw (reg2 reg3 : RegNum) : Statement (.bsw reg2 reg3) := rfl
theorem bsh (reg2 reg3 : RegNum) : Statement (.bsh reg2 reg3) := rfl
theorem hsw (reg2 reg3 : RegNum) : Statement (.hsw reg2 reg3) := rfl
theorem disposeJump (imm5 : BitVec 5) (list12 : RegList) (reg1 : RegNum) : Statement (.disposeJump imm5 list12 reg1) := rfl
theorem dispose (imm5 : BitVec 5) (list12 : RegList) : Statement (.dispose imm5 list12) := rfl
theorem prepare (list12 : RegList) (imm5 : BitVec 5) : Statement (.prepare list12 imm5) := rfl
theorem prepareSp (list12 : RegList) (imm5 : BitVec 5) : Statement (.prepareSp list12 imm5) := rfl
theorem prepareImm16 (list12 : RegList) (imm5 : BitVec 5) (imm16 : Half) : Statement (.prepareImm16 list12 imm5 imm16) := rfl
theorem prepareHi16 (list12 : RegList) (imm5 : BitVec 5) (imm16 : Half) : Statement (.prepareHi16 list12 imm5 imm16) := rfl
theorem prepareImm32 (list12 : RegList) (imm5 : BitVec 5) (imm32 : Word) : Statement (.prepareImm32 list12 imm5 imm32) := rfl
theorem illegal0111 (bits15 : BitVec 5) (bits4 : BitVec 5) (bits31 : BitVec 5) (bits22 : BitVec 6) : Statement (.illegal0111 bits15 bits4 bits31 bits22) := rfl
theorem illegal1xxx (bits15 : BitVec 5) (bits4 : BitVec 5) (bits31 : BitVec 5) (bits25 : BitVec 3) (bits22 : BitVec 6) : Statement (.illegal1xxx bits15 bits4 bits31 bits25 bits22) := rfl

end Sys2Proof.Laws.EncodeLength
end

