-- ==== Sys2Proof/Laws/Shared.lean ====
section
/-! SUPPORT. For each shared end of an instruction, one lemma that says everything it does, in the terms of Safety.lean. -/

namespace Sys2Proof.Machine

theorem reg_setReg_regAfter (s : State) (r : RegNum) (v : Word) (q : RegNum) :
    (s.setReg r v).reg q = s.regAfter [(r, v)] q := by
  rw [reg_setReg]; rfl

theorem reg_setReg_setReg (s : State) (r r' : RegNum) (v v' : Word) (q : RegNum) :
    ((s.setReg r v).setReg r' v').reg q = s.regAfter [(r', v'), (r, v)] q := by
  rw [reg_setReg, reg_setReg]; rfl

theorem flag_setFlags (s : State) (f : Flagged) (b : PswBit) :
    (s.setFlags f).flag b = s.flagAfter [(.cy, f.cy), (.ov, f.ov), (.s, f.s), (.z, f.z)] b := by
  cases b <;> simp [State.setFlags, flag_setFlag, State.flagAfter]

/-- A data transfer. -/
theorem completes_move {i : Instr} {s : State} {dest : RegNum} {v : Word} {len : Nat}
    (h : exec i s = s.move dest v len) : Completes i s [(dest, v)] [] (s.nextPc len) := by
  refine ⟨_, h, fun q => ?_, ⟨fun b => ?_, ?_⟩, ?_, fun r _ => ?_, fun a => ?_, ?_, ?_⟩
  · simp [reg_setReg_regAfter]
  · simp [State.flagAfter]
  · simp
  · simp [advance_pc, State.nextPc]
  · simp
  · simp
  · simp [EnvKept]
  · simp

/-- A load. -/
theorem completes_loaded {i : Instr} {s : State} {dest : RegNum} {v : Word} {len : Nat}
    (h : exec i s = s.loaded dest v len) : Completes i s [(dest, v)] [] (s.nextPc len) := completes_move h

/-- An extension. -/
theorem completes_extended {i : Instr} {s : State} {dest : RegNum} {v : Word}
    (h : exec i s = s.extended dest v) : Completes i s [(dest, v)] [] (s.nextPc 2) := completes_move h

/-- An operation with the four flags. -/
theorem completes_arithmetic {i : Instr} {s : State} {dest : RegNum} {f : Flagged} {len : Nat}
    (h : exec i s = s.arithmetic dest f len) :
    Completes i s [(dest, f.result)] [(.cy, f.cy), (.ov, f.ov), (.s, f.s), (.z, f.z)] (s.nextPc len) := by
  refine ⟨_, h, fun q => ?_, ⟨fun b => ?_, ?_⟩, ?_, fun r hr => ?_, fun a => ?_, ?_, ?_⟩
  · simp [State.setFlags, reg_setReg_regAfter]
  · rw [flag_advance, flag_setFlags]
    cases b <;> simp [State.flagAfter]
  · simp [State.setFlags]
  · simp [advance_pc, State.nextPc, State.setFlags]
  · simp only [List.mem_singleton] at hr
    simp [State.setFlags, sysReg_setFlag, hr]
  · simp [State.setFlags]
  · simp [EnvKept, State.setFlags]
  · simp [State.setFlags]

/-- A shift or swap. -/
theorem completes_shifted {i : Instr} {s : State} {dest : RegNum} {f : Flagged} {len : Nat}
    (h : exec i s = s.shifted dest f len) :
    Completes i s [(dest, f.result)] [(.cy, f.cy), (.ov, f.ov), (.s, f.s), (.z, f.z)] (s.nextPc len) :=
  completes_arithmetic h

/-- A comparison. -/
theorem completes_compare {i : Instr} {s : State} {f : Flagged} {len : Nat} (h : exec i s = s.compare f len) :
    Completes i s [] [(.cy, f.cy), (.ov, f.ov), (.s, f.s), (.z, f.z)] (s.nextPc len) := by
  refine ⟨_, h, fun q => ?_, ⟨fun b => ?_, ?_⟩, ?_, fun r hr => ?_, fun a => ?_, ?_, ?_⟩
  · simp [State.setFlags, State.regAfter]
  · rw [flag_advance, flag_setFlags]
  · simp [State.setFlags]
  · simp [advance_pc, State.nextPc, State.setFlags]
  · simp only [List.mem_singleton] at hr
    simp [State.setFlags, sysReg_setFlag, hr]
  · simp [State.setFlags]
  · simp [EnvKept, State.setFlags]
  · simp [State.setFlags]

/-- A bitwise operation. -/
theorem completes_bitwise {i : Instr} {s : State} {dest : RegNum} {res : Word} {len : Nat}
    (h : exec i s = s.bitwise dest res len) :
    Completes i s [(dest, res)] [(.ov, false), (.s, res.msb), (.z, decide (res = 0#32))] (s.nextPc len) := by
  refine ⟨_, h, fun q => ?_, ⟨fun b => ?_, ?_⟩, ?_, fun r hr => ?_, fun a => ?_, ?_, ?_⟩
  · simp [State.setLogicFlags, reg_setReg_regAfter]
  · cases b <;> simp [State.setLogicFlags, flag_setFlag, State.flagAfter]
  · simp [State.setLogicFlags]
  · simp [advance_pc, State.nextPc, State.setLogicFlags]
  · simp only [List.mem_singleton] at hr
    simp [State.setLogicFlags, sysReg_setFlag, hr]
  · simp [State.setLogicFlags]
  · simp [EnvKept, State.setLogicFlags]
  · simp [State.setLogicFlags]

/-- A division with a remainder. -/
theorem completes_divided {i : Instr} {s : State} {reg2 reg3 : RegNum} {d : Division} {len : Nat}
    (h : exec i s = s.divided reg2 reg3 d len) :
    Completes i s [(reg3, d.remainder), (reg2, d.quotient)] [(.ov, d.ov), (.s, d.s), (.z, d.z)] (s.nextPc len) := by
  refine ⟨_, h, fun q => ?_, ⟨fun b => ?_, ?_⟩, ?_, fun r hr => ?_, fun a => ?_, ?_, ?_⟩
  · simp [State.setDivisionFlags, reg_setReg_setReg]
  · cases b <;> simp [State.setDivisionFlags, flag_setFlag, State.flagAfter]
  · simp [State.setDivisionFlags]
  · simp [advance_pc, State.nextPc, State.setDivisionFlags]
  · simp only [List.mem_singleton] at hr
    simp [State.setDivisionFlags, sysReg_setFlag, hr]
  · simp [State.setDivisionFlags]
  · simp [EnvKept, State.setDivisionFlags]
  · simp [State.setDivisionFlags]

/-- A saturated operation. -/
theorem completes_saturated {i : Instr} {s : State} {reg2 : RegNum} {f : Flagged} {len : Nat}
    (h : exec i s = s.saturatedOp reg2 f len) :
    Completes i s [(reg2, f.result)]
      [(.cy, f.cy), (.ov, f.ov), (.s, f.s), (.z, f.z), (.sat, s.flag .sat || f.ov)] (s.nextPc len) := by
  refine ⟨_, h, fun q => ?_, ⟨fun b => ?_, ?_⟩, ?_, fun r hr => ?_, fun a => ?_, ?_, ?_⟩ <;>
    unfold State.setSaturatedFlags <;> cases hov : f.ov
  · simp [State.setFlags, reg_setReg_regAfter]
  · simp [State.setFlags, reg_setReg_regAfter]
  · cases b <;> simp [State.setFlags, flag_setFlag, State.flagAfter, hov]
  · cases b <;> simp [State.setFlags, flag_setFlag, State.flagAfter, hov]
  · simp [State.setFlags]
  · simp [State.setFlags]
  · simp [advance_pc, State.nextPc, State.setFlags]
  · simp [advance_pc, State.nextPc, State.setFlags]
  · simp only [List.mem_singleton] at hr
    simp [State.setFlags, sysReg_setFlag, hr]
  · simp only [List.mem_singleton] at hr
    simp [State.setFlags, sysReg_setFlag, hr]
  · simp [State.setFlags]
  · simp [State.setFlags]
  · simp [EnvKept, State.setFlags]
  · simp [EnvKept, State.setFlags]
  · simp [State.setFlags]
  · simp [State.setFlags]

/-- A jump: pc only. -/
theorem completes_jump {i : Instr} {s : State} {t : Word} (h : exec i s = .next (s.setPc t)) :
    Completes i s [] [] (reducePc t) := by
  refine ⟨_, h, fun q => ?_, ⟨fun b => ?_, ?_⟩, ?_, fun r _ => ?_, fun a => ?_, ?_, ?_⟩ <;>
    simp [State.regAfter, State.flagAfter, EnvKept]

/-- A test of a bit: Z only. -/
theorem completes_testBit {i : Instr} {s : State} {a : Word} {n : Nat} (h : exec i s = s.testBit a n) :
    Completes i s [] [(.z, !(s.load1 a).getLsbD n)] (s.nextPc 4) := by
  refine ⟨_, h, fun q => ?_, ⟨fun b => ?_, ?_⟩, ?_, fun r hr => ?_, fun a => ?_, ?_, ?_⟩
  · simp [State.setBitZ, State.regAfter]
  · simp [State.setBitZ, flag_setFlag, State.flagAfter]
  · simp [State.setBitZ]
  · simp [advance_pc, State.nextPc, State.setBitZ]
  · simp only [List.mem_singleton] at hr
    simp [State.setBitZ, sysReg_setFlag, hr]
  · simp [State.setBitZ]
  · simp [EnvKept, State.setBitZ]
  · simp [State.setBitZ]

/-- A product. -/
theorem completes_product {i : Instr} {s : State} {reg2 reg3 : RegNum} {p : BitVec 64}
    (h : exec i s = .next ((s.setProduct reg2 reg3 p).advance 4)) :
    Completes i s [(reg3, p.extractLsb' 32 32), (reg2, p.extractLsb' 0 32)] [] (s.nextPc 4) := by
  refine ⟨_, h, fun q => ?_, ⟨fun b => ?_, ?_⟩, ?_, fun r _ => ?_, fun a => ?_, ?_, ?_⟩ <;>
    simp [State.setProduct, reg_setReg_setReg, State.flagAfter, advance_pc, State.nextPc, EnvKept]

/-- One byte stored. -/
theorem memStored_store1 (s : State) (h : s.mem.wf = true) (a : Word) (v : Byte) :
    MemStored s (s.store1 a v) a [v] := by
  refine ⟨fun k hk => ?_, fun b hb => ?_⟩
  · have hk0 : k = 0 := by simpa using hk
    subst hk0
    rw [read_store1 s h]
    cases hh : s.inRam a <;> simp [hh]
  · rw [read_store1 s h, if_neg]
    intro hab
    exact hb 0 (by simp) (by simpa using hab.1)

/-- One more byte stored at the end. -/
theorem memStored_append {s t : State} {a : Word} {bytes : List Byte} {v : Byte} (h : MemStored s t a bytes)
    (hw : t.mem.wf = true) (ha : ∀ x, t.inRam x = s.inRam x) (hl : bytes.length < 2 ^ 32) :
    MemStored s (t.store1 (a + BitVec.ofNat 32 bytes.length) v) a (bytes ++ [v]) := by
  have distinct : ∀ k, k < bytes.length → (a + BitVec.ofNat 32 k).toNat ≠ (a + BitVec.ofNat 32 bytes.length).toNat := by
    intro k hk heq
    have := BitVec.eq_of_toNat_eq heq
    have h2 : BitVec.ofNat 32 k = BitVec.ofNat 32 bytes.length := by
      simpa using this
    have h3 := congrArg BitVec.toNat h2
    simp only [BitVec.toNat_ofNat] at h3
    omega
  refine ⟨fun k hk => ?_, fun b hb => ?_⟩
  · rw [read_store1 t hw, ha]
    by_cases hkl : k < bytes.length
    · rw [if_neg (fun hc => distinct k hkl hc.1), h.1 k hkl]
      simp [List.getElem_append_left hkl]
    · have hk' : k = bytes.length := by
        simp only [List.length_append, List.length_singleton] at hk
        omega
      subst hk'
      cases hh : s.inRam (a + BitVec.ofNat 32 bytes.length)
      · simp only [Bool.false_eq_true, and_false, if_false]
        exact h.2 _ fun j hj heq => distinct j hj heq.symm
      · simp
  · rw [read_store1 t hw, if_neg]
    · exact h.2 b fun k hk => hb k (by simp; omega)
    · exact fun hc => hb bytes.length (by simp) hc.1

/-- A half-word stored. -/
theorem memStored_store2 (s : State) (h : s.mem.wf = true) (a : Word) (v : Half) :
    MemStored s (s.store2 a v) a (halfBytes v) := by
  have h2 := memStored_append (v := v.extractLsb' 8 8) (memStored_store1 s h a (v.extractLsb' 0 8))
    (wf_store1 s h _ _) (fun _ => inRam_store1 _ _ _ _) (by simp)
  simpa only [List.length_singleton, List.singleton_append, State.store2, halfBytes] using h2

/-- A word stored. -/
theorem memStored_store4 (s : State) (h : s.mem.wf = true) (a v : Word) :
    MemStored s (s.store4 a v) a (wordBytes v) := by
  have h2 := memStored_append (v := v.extractLsb' 8 8) (memStored_store1 s h a (v.extractLsb' 0 8))
    (wf_store1 s h _ _) (fun _ => inRam_store1 _ _ _ _) (by simp)
  have h3 := memStored_append (v := v.extractLsb' 16 8) h2 (wf_store1 _ (wf_store1 s h _ _) _ _) (by simp) (by simp)
  have h4 := memStored_append (v := v.extractLsb' 24 8) h3 (wf_store1 _ (wf_store1 _ (wf_store1 s h _ _) _ _) _ _)
    (by simp) (by simp)
  simpa only [List.length_cons, List.length_nil, List.cons_append, List.nil_append, Nat.zero_add, Nat.reduceAdd,
    State.store4, wordBytes]
    using h4

end Sys2Proof.Machine
end

