-- ==== Sys2Proof/Laws/Step.lean ====
section
/-! SUPPORT. What a step can do, said once, and what the operations of the boundary read. -/

namespace Sys2Proof.Machine

/-! ### The host's input -/

theorem takeInput_host (s : State) : s.takeInput.host = s.host.tail := by
  unfold State.takeInput
  cases s.host <;> simp

/-- The request lines of a boundary: as the host drives them, for the inputs that the product has. -/
theorem takeInput_requests (s : State) :
    s.takeInput.requests = s.product.present ((s.host.head?.bind HostInput.lines).getD s.requests) := by
  unfold State.takeInput
  cases s.host <;> simp

/-- Taking the input writes the script and the request lines only. -/
theorem takeInput_eq (s : State) :
    s.takeInput = { s with host := s.takeInput.host, requests := s.takeInput.requests } := by
  unfold State.takeInput
  cases s.host <;> simp

theorem requests_any_eq_false {r : Requests} : r.any = false ↔ r = Requests.none := by
  obtain ⟨a, b, c, d⟩ := r
  cases a <;> cases b <;> cases c <;> cases d <;> simp [Requests.any, Requests.none]

/-! ### The fetch -/

/-- The half-words of a fetch depend on pc, memory, the map and the tick only. -/
theorem fetchHalf_congr {s t : State} (hpc : t.pc = s.pc) (hm : t.mem = s.mem) (hp : t.product = s.product)
    (ha : t.hostAreas = s.hostAreas) (ht : t.tick = s.tick) (k : Nat) : t.fetchHalf k = s.fetchHalf k := by
  have hb : ∀ x, t.nextTick.byteAt x = s.nextTick.byteAt x := fun x => by
    simp [State.byteAt, State.inHostArea, target_of_map hp ha, hm, ht]
  simp [State.fetchHalf, State.fetchAddress, State.load2, hb, hpc]

theorem fetch_takeInput_wake (s : State) : s.takeInput.wake.fetch = s.fetch := by
  unfold State.fetch
  simp only [fetchHalf_congr (s := s) (t := s.takeInput.wake) (by simp) (by simp) (by simp) (by simp) (by simp)]

/-! ### Taking an event -/

/-- The entry sequence of an event touches neither HALT mode nor the outside of the core. -/
theorem envKept_raise (s : State) (e : Event) (rpc : Word) :
    EnvKept s (s.raise e rpc) ∧ (s.raise e rpc).acceptPoint = s.acceptPoint := by
  cases e <;> simp [EnvKept, State.raise, State.setEicc, State.setFecc]

/-- What accepting a request leaves: the line cleared, no acceptance point, the rest as the entry sequence says. -/
theorem accept_outside (s : State) (e : Event) :
    (s.accept e).requests = (s.acknowledge e).requests ∧ (s.accept e).acceptPoint = false ∧
    (s.accept e).halted = s.halted ∧ (s.accept e).host = s.host ∧ (s.accept e).product = s.product ∧
    (s.accept e).hostAreas = s.hostAreas ∧ (s.accept e).tick = s.tick := by
  obtain ⟨⟨h1, h2, h3, h4, h5, h6⟩, -⟩ := envKept_raise s e s.pc
  refine ⟨?_, rfl, ?_, ?_, ?_, ?_, ?_⟩
  · unfold State.accept State.acknowledge
    split <;> simp [h2]
  all_goals simp [State.accept, h1, h3, h4, h5, h6]

/-! ### The step -/

/-- The four ways in which a step answers a next state. -/
theorem step_cases {s t : State} (h : step s = .next t) :
    (s.resetAsserted = true ∧ t = s.takeInput.systemReset) ∨
    (s.resetAsserted = false ∧ s.takeInput.staysHalted = true ∧ t = s.takeInput) ∨
    (s.resetAsserted = false ∧ s.takeInput.staysHalted = false ∧
      ∃ e, s.takeInput.accepted = some e ∧ t = s.takeInput.wake.accept e) ∨
    (s.resetAsserted = false ∧ s.takeInput.staysHalted = false ∧ s.takeInput.accepted = none ∧
      ∃ i, s.fetch = .ok i ∧ exec i s.takeInput.wake.begin = .next t) := by
  unfold step at h
  split at h
  · rename_i hr
    exact .inl ⟨hr, (Host.Outcome.next.inj h).symm⟩
  · rename_i hr
    have hr := eq_false_of_ne_true hr
    split at h
    · rename_i hs
      exact .inr (.inl ⟨hr, hs, (Host.Outcome.next.inj h).symm⟩)
    · rename_i hs
      have hs := eq_false_of_ne_true hs
      split at h
      · rename_i e he
        exact .inr (.inr (.inl ⟨hr, hs, e, he, (Host.Outcome.next.inj h).symm⟩))
      · rename_i he
        unfold runInstruction at h
        rw [fetch_takeInput_wake] at h
        split at h
        · rename_i i hi
          exact .inr (.inr (.inr ⟨hr, hs, he, i, hi, h⟩))
        · cases h

end Sys2Proof.Machine
end

