-- ==== Sys2Proof/Tests/Slice0.lean ====
section
/-! SUPPORT. The model's own tests. Words are written out from the patterns of 30_encoding.md R174, field by field; the
expected results of a test named after a vector (LS1, ...) are those of 95_test_vectors.md, the others follow the cited
rule. At the end, for each statement with hypotheses, a state and operands that meet them. -/

namespace Sys2Proof.Tests
open Sys2Proof.Machine

/-! ### Helpers -/

/-- The words decode to the instruction, which is well formed, as long as they are, and encoded by them. -/
def reads (words : List Half) (i : Instr) : Bool :=
  (match decodeHalfList words with
    | .ok j => decide (j = i)
    | .error _ => false) &&
  i.wellFormed && decide (i.length = 2 * words.length) && decide (encode i = words)

/-- The words are an undefined encoding of the class. -/
def undefinedAs (words : List Half) (c : UndefinedClass) : Bool :=
  match decodeHalfList words with
  | .ok _ => false
  | .error d => decide (c = d)

/-- Memory with these bytes. -/
def bytesAt (cells : List (Nat × Byte)) : Memory := cells.foldl (fun m c => m.write c.1 c.2) []

/-- A state at pc with PSW 0 and an acceptance point before it, and these registers, system registers and bytes. -/
def start (pc : Word) (regs : List (RegNum × Word)) (srs : List (SysReg × Word)) (cells : List (Nat × Byte)) : State :=
  let s : State := { State.reset with pc := pc, psw := 0#32, acceptPoint := true, mem := bytesAt cells }
  srs.foldl (fun s p => s.setSysReg p.1 p.2) (regs.foldl (fun s p => s.setReg p.1 p.2) s)

/-- The result is a next state with the property. -/
def leaves (r : Result) (f : State → Bool) : Bool :=
  match r with
  | .next t => f t
  | .fault _ => false
  | .refused _ => false

/-! ### Ill-formed terms: one for each check of WellFormed.lean -/

theorem test_wellFormed_movReg_r0_r0 : (Instr.movReg 0 0).wellFormed = false := by decide
theorem test_wellFormed_switch_r0 : (Instr.switch 0).wellFormed = false := by decide
theorem test_wellFormed_divhReg_r0 :
    (Instr.divhReg 0 7).wellFormed = false ∧ (Instr.divhReg 6 0).wellFormed = false := by decide
theorem test_wellFormed_reg2_r0 :
    (Instr.satsubr 6 0).wellFormed = false ∧ (Instr.satsub 6 0).wellFormed = false ∧
    (Instr.sataddReg 6 0).wellFormed = false ∧ (Instr.mulhReg 6 0).wellFormed = false ∧
    (Instr.movImm5 1 0).wellFormed = false ∧ (Instr.sataddImm5 1 0).wellFormed = false ∧
    (Instr.mulhImm5 1 0).wellFormed = false ∧ (Instr.sldBu 0 0).wellFormed = false ∧
    (Instr.sldHu 0 0).wellFormed = false ∧ (Instr.jarl 0 0).wellFormed = false ∧
    (Instr.movea 1 6 0).wellFormed = false ∧ (Instr.movhi 1 6 0).wellFormed = false ∧
    (Instr.satsubi 1 6 0).wellFormed = false ∧ (Instr.mulhi 1 6 0).wellFormed = false ∧
    (Instr.ldBu 0 6 0).wellFormed = false ∧ (Instr.ldHu 0 6 0).wellFormed = false ∧
    (Instr.disposeJump 0 0 0).wellFormed = false := by decide
theorem test_wellFormed_odd_displacement :
    (Instr.bcond .t 1).wellFormed = false ∧ (Instr.sldHu 1 7).wellFormed = false ∧
    (Instr.sldH 1 7).wellFormed = false ∧ (Instr.sstH 7 1).wellFormed = false ∧
    (Instr.jarl 1 7).wellFormed = false ∧ (Instr.jr 1).wellFormed = false ∧
    (Instr.ldH 1 6 7).wellFormed = false ∧ (Instr.ldW 1 6 7).wellFormed = false ∧
    (Instr.stH 7 1 6).wellFormed = false ∧ (Instr.stW 7 1 6).wellFormed = false ∧
    (Instr.ldHu 1 6 7).wellFormed = false := by decide
theorem test_wellFormed_word_displacement :
    (Instr.sldW 1 7).wellFormed = false ∧ (Instr.sldW 2 7).wellFormed = false ∧
    (Instr.sstW 7 1).wellFormed = false ∧ (Instr.sstW 7 2).wellFormed = false := by decide

/-! ### Decoding: a word for every constructor, an underscore between the fields of its pattern -/

theorem test_decode_load_store_1 :
    reads [0b00111_0000110_1011#16] (.sldBu 0b1011#4 7) ∧
    reads [0b00111_0000111_1011#16] (.sldHu 0b10110#5 7) ∧
    reads [0b00111_0110_1011001#16] (.sldB 0b1011001#7 7) ∧
    reads [0b00111_0111_1011001#16] (.sstB 7 0b1011001#7) ∧
    reads [0b00111_1000_1011001#16] (.sldH 0b10110010#8 7) ∧
    reads [0b00111_1001_1011001#16] (.sstH 7 0b10110010#8) ∧
    reads [0b00111_1010_101101_0#16] (.sldW 0b10110100#8 7) ∧
    reads [0b00111_1010_101101_1#16] (.sstW 7 0b10110100#8) := by
  decide

theorem test_decode_load_store_2 :
    reads [0b00111_111000_00110#16, 0b1000000000000001#16] (.ldB 0x8001 6 7) ∧
    reads [0b00111_111001_00110#16, 0b100000000000001_0#16] (.ldH 0x8002 6 7) ∧
    reads [0b00111_111001_00110#16, 0b100000000000001_1#16] (.ldW 0x8002 6 7) ∧
    reads [0b00111_111010_00110#16, 0b1000000000000001#16] (.stB 7 0x8001 6) ∧
    reads [0b00111_111011_00110#16, 0b100000000000001_0#16] (.stH 7 0x8002 6) ∧
    reads [0b00111_111011_00110#16, 0b100000000000001_1#16] (.stW 7 0x8002 6) ∧
    reads [0b00111_11110_1_00110#16, 0b100000000000001_1#16] (.ldBu 0x8003 6 7) ∧
    reads [0b00111_111111_00110#16, 0b100000000000001_1#16] (.ldHu 0x8002 6 7) := by
  decide

theorem test_decode_multiply :
    reads [0b00111_000111_00110#16] (.mulhReg 6 7) ∧
    reads [0b00111_010111_10011#16] (.mulhImm5 0b10011#5 7) ∧
    reads [0b00111_110111_00110#16, 0b1000000000000001#16] (.mulhi 0x8001 6 7) ∧
    reads [0b00111_111111_00110#16, 0b01000_01000100000#16] (.mulReg 6 7 8) ∧
    reads [0b00111_111111_00110#16, 0b01000_01000100010#16] (.muluReg 6 7 8) ∧
    reads [0b00111_111111_00101#16, 0b01000_01001_1011_00#16] (.mulImm9 0b1011_00101#9 7 8) ∧
    reads [0b00111_111111_00101#16, 0b01000_01001_1011_10#16] (.muluImm9 0b1011_00101#9 7 8) := by
  decide

theorem test_decode_arithmetic_1 :
    reads [0b00111_000000_00110#16] (.movReg 6 7) ∧
    reads [0b00111_000010_00110#16] (.divhReg 6 7) ∧
    reads [0b00111_001100_00110#16] (.subr 6 7) ∧
    reads [0b00111_001101_00110#16] (.sub 6 7) ∧
    reads [0b00111_001110_00110#16] (.addReg 6 7) ∧
    reads [0b00111_001111_00110#16] (.cmpReg 6 7) ∧
    reads [0b00111_010000_10011#16] (.movImm5 0b10011#5 7) ∧
    reads [0b00111_010010_10011#16] (.addImm5 0b10011#5 7) := by
  decide

theorem test_decode_arithmetic_2 :
    reads [0b00111_010011_10011#16] (.cmpImm5 0b10011#5 7) ∧
    reads [0b00111_110000_00110#16, 0b1000000000000001#16] (.addi 0x8001 6 7) ∧
    reads [0b00111_110001_00110#16, 0b1000000000000001#16] (.movea 0x8001 6 7) ∧
    reads [0b00111_110010_00110#16, 0b1000000000000001#16] (.movhi 0x8001 6 7) ∧
    reads [0b00000110001_00110#16, 0b0101011001111000#16, 0b0001001000110100#16] (.movImm32 0x12345678 6) ∧
    reads [0b00111_1111110_1101#16, 0b0000000000000000#16] (.setf .sa 7) ∧
    reads [0b00111_1111110_1101#16, 0b0000001000000000#16] (.sasf .sa 7) ∧
    reads [0b00111_111111_00110#16, 0b01000_01010000000#16] (.divhReg3 6 7 8) := by
  decide

theorem test_decode_arithmetic_3 :
    reads [0b00111_111111_00110#16, 0b01000_01010000010#16] (.divhu 6 7 8) ∧
    reads [0b00111_111111_00110#16, 0b01000_01011000000#16] (.div 6 7 8) ∧
    reads [0b00111_111111_00110#16, 0b01000_01011000010#16] (.divu 6 7 8) ∧
    reads [0b00111_111111_00110#16, 0b01000_011001_1101_0#16] (.cmovReg .sa 6 7 8) ∧
    reads [0b00111_111111_10011#16, 0b01000_011000_1101_0#16] (.cmovImm5 .sa 0b10011#5 7 8) := by
  decide

theorem test_decode_saturated :
    reads [0b00111_000100_00110#16] (.satsubr 6 7) ∧
    reads [0b00111_000101_00110#16] (.satsub 6 7) ∧
    reads [0b00111_000110_00110#16] (.sataddReg 6 7) ∧
    reads [0b00111_010001_10011#16] (.sataddImm5 0b10011#5 7) ∧
    reads [0b00111_110011_00110#16, 0b1000000000000001#16] (.satsubi 0x8001 6 7) := by
  decide

theorem test_decode_logical_1 :
    reads [0b00111_000001_00110#16] (.notReg 6 7) ∧
    reads [0b00000000100_00110#16] (.zxb 6) ∧
    reads [0b00000000101_00110#16] (.sxb 6) ∧
    reads [0b00000000110_00110#16] (.zxh 6) ∧
    reads [0b00000000111_00110#16] (.sxh 6) ∧
    reads [0b00111_001000_00110#16] (.orReg 6 7) ∧
    reads [0b00111_001001_00110#16] (.xorReg 6 7) ∧
    reads [0b00111_001010_00110#16] (.andReg 6 7) := by
  decide

theorem test_decode_logical_2 :
    reads [0b00111_001011_00110#16] (.tst 6 7) ∧
    reads [0b00111_010100_10011#16] (.shrImm5 0b10011#5 7) ∧
    reads [0b00111_010101_10011#16] (.sarImm5 0b10011#5 7) ∧
    reads [0b00111_010110_10011#16] (.shlImm5 0b10011#5 7) ∧
    reads [0b00111_110100_00110#16, 0b1000000000000001#16] (.ori 0x8001 6 7) ∧
    reads [0b00111_110101_00110#16, 0b1000000000000001#16] (.xori 0x8001 6 7) ∧
    reads [0b00111_110110_00110#16, 0b1000000000000001#16] (.andi 0x8001 6 7) ∧
    reads [0b00111_111111_00110#16, 0b0000000010000000#16] (.shrReg 6 7) := by
  decide

theorem test_decode_logical_3 :
    reads [0b00111_111111_00110#16, 0b0000000010100000#16] (.sarReg 6 7) ∧
    reads [0b00111_111111_00110#16, 0b0000000011000000#16] (.shlReg 6 7) ∧
    reads [0b00111_11111100000#16, 0b01000_01101000000#16] (.bsw 7 8) ∧
    reads [0b00111_11111100000#16, 0b01000_01101000010#16] (.bsh 7 8) ∧
    reads [0b00111_11111100000#16, 0b01000_01101000100#16] (.hsw 7 8) := by
  decide

theorem test_decode_branch :
    reads [0b00000000011_00110#16] (.jmp 6) ∧
    reads [0b10110_1011_011_0110#16] (.bcond .lt 0b101100110#9) ∧
    reads [0b00111_11110_101101#16, 0b000000000000011_0#16] (.jarl 0b1011010000000000000110#22 7) ∧
    reads [0b0000011110_101101#16, 0b000000000000011_0#16] (.jr 0b1011010000000000000110#22) := by
  decide

theorem test_decode_bit_manipulation :
    reads [0b00_011_111110_00110#16, 0b1000000000000001#16] (.set1Disp 3 0x8001 6) ∧
    reads [0b01_011_111110_00110#16, 0b1000000000000001#16] (.not1Disp 3 0x8001 6) ∧
    reads [0b10_011_111110_00110#16, 0b1000000000000001#16] (.clr1Disp 3 0x8001 6) ∧
    reads [0b11_011_111110_00110#16, 0b1000000000000001#16] (.tst1Disp 3 0x8001 6) ∧
    reads [0b00111_111111_00110#16, 0b0000000011100000#16] (.set1Reg 7 6) ∧
    reads [0b00111_111111_00110#16, 0b0000000011100010#16] (.not1Reg 7 6) ∧
    reads [0b00111_111111_00110#16, 0b0000000011100100#16] (.clr1Reg 7 6) ∧
    reads [0b00111_111111_00110#16, 0b0000000011100110#16] (.tst1Reg 7 6) := by
  decide

theorem test_decode_special_1 :
    reads [0b0000000000000000#16] (.nop) ∧
    reads [0b00000000010_00110#16] (.switch 6) ∧
    reads [0b0000001000_100011#16] (.callt 0b100011#6) ∧
    reads [0b10100_111111_00110#16, 0b0000000000100000#16] (.ldsr 6 20) ∧
    reads [0b00111_111111_10100#16, 0b0000000001000000#16] (.stsr 20 7) ∧
    reads [0b00000111111_10011#16, 0b0000000100000000#16] (.trap 0x13) ∧
    reads [0b0000011111100000#16, 0b0000000100100000#16] (.halt) ∧
    reads [0b0000011111100000#16, 0b0000000101000000#16] (.reti) := by
  decide

theorem test_decode_special_2 :
    reads [0b0000011111100000#16, 0b0000000101000100#16] (.ctret) ∧
    reads [0b0000011111100000#16, 0b0000000101100000#16] (.di) ∧
    reads [0b1000011111100000#16, 0b0000000101100000#16] (.ei) ∧
    reads [0b0000011001_10011_1#16, 0b01001001010_00110#16] (.disposeJump 0b10011#5 0b011000101001#12 6) ∧
    reads [0b0000011001_10011_1#16, 0b01001001010_00000#16] (.dispose 0b10011#5 0b011000101001#12) ∧
    reads [0b0000011110_10011_1#16, 0b01001001010_00001#16] (.prepare 0b011000101001#12 0b10011#5) ∧
    reads [0b0000011110_10011_1#16, 0b01001001010_00011#16] (.prepareSp 0b011000101001#12 0b10011#5) ∧
    reads [0b0000011110_10011_1#16, 0b01001001010_01011#16, 0b1000000000000001#16] (.prepareImm16 0b011000101001#12 0b10011#5 0x8001) := by
  decide

theorem test_decode_special_3 :
    reads [0b0000011110_10011_1#16, 0b01001001010_10011#16, 0b1000000000000001#16] (.prepareHi16 0b011000101001#12 0b10011#5 0x8001) ∧
    reads [0b0000011110_10011_1#16, 0b01001001010_11011#16, 0b0101011001111000#16, 0b0001001000110100#16] (.prepareImm32 0b011000101001#12 0b10011#5 0x12345678) := by
  decide

theorem test_decode_debug :
    reads [0b1111100001000000#16] (.dbtrap) ∧
    reads [0b0000011111100000#16, 0b0000000101000110#16] (.dbret) := by
  decide

theorem test_decode_illegal :
    reads [0b10110_111111_01101#16, 0b11001_0111_101101_0#16] (.illegal0111 0b10110#5 0b01101#5 0b11001#5 0b101101#6) ∧
    reads [0b10110_111111_01101#16, 0b11001_1_010101101_0#16] (.illegal1xxx 0b10110#5 0b01101#5 0b11001#5 0b010#3 0b101101#6) := by
  decide

/-- 95_test_vectors.md DC2, DC4, DC22, DC35, DC42, DC45, DC50 to DC54, DC57 to DC63, DC65. -/
theorem test_decode_undefined :
    undefinedAs [0x0040#16] .divhReservedRegister ∧ undefinedAs [0x0840#16] .divhReservedRegister ∧
    undefinedAs [0x02E0#16] .mulhImm5R0 ∧ undefinedAs [0x06E0#16, 0x0001#16] .mulhiR0 ∧
    undefinedAs [0x0780#16, 0x0005#16] .prepareSubOpcode ∧ undefinedAs [0x07E0#16, 0x0001#16] .ldHuR0 ∧
    undefinedAs [0x07E0#16, 0x0360#16] .extendedMapCell ∧ undefinedAs [0x07E0#16, 0x0346#16] .extendedMapCell ∧
    undefinedAs [0x07E0#16, 0x0060#16] .extendedMapCell ∧ undefinedAs [0x07E0#16, 0x0142#16] .extendedMapCell ∧
    undefinedAs [0x0FE0#16, 0x0160#16] .extendedMapCell ∧ undefinedAs [0x07E0#16, 0x0180#16] .extendedMapCell ∧
    undefinedAs [0x07E0#16, 0x02A0#16] .extendedMapCell ∧ undefinedAs [0x07F0#16, 0x0000#16] .fixedBits ∧
    undefinedAs [0x07E0#16, 0x0102#16] .fixedBits ∧ undefinedAs [0x0FE0#16, 0x0120#16] .fixedBits ∧
    undefinedAs [0x0FE1#16, 0x1224#16] .fixedBits ∧ undefinedAs [0x0FE1#16, 0x0820#16] .fixedBits ∧
    undefinedAs [0x0FE5#16, 0x0100#16] .fixedBits := by
  decide

/-- A table word: MOV imm32 with the table's 48 bits, and PREPARE with its 64. -/
theorem test_decodeTableWord :
    decodeTableWord 48 0x123456780626 = some (.movImm32 0x12345678 6) ∧
    decodeTableWord 64 0x12345678003B0780 = some (.prepareImm32 0x800 0 0x12345678) ∧
    decodeTableWord 16 0x39C6 = some (.addReg 6 7) ∧ decodeTableWord 16 0x0040 = none := by
  decide

/-- A table word placed after reset is the next instruction that a step runs: MOV 0x1234567F, r6. -/
theorem test_withFetchWord :
    leaves (step (State.reset.withFetchWord 48 0x1234567F0626)) (fun t => t.reg 6 = 0x1234567F ∧ t.pc = 6) := by
  decide

/-! ### One instruction -/

theorem test_ldW_LS1 :
    leaves (exec (.ldW 0 6 7) (start 0x1000 [(6, 0x2001)] [] [(0x2001, 0xDD), (0x2002, 0xCC), (0x2003, 0xBB), (0x2004, 0xAA)]))
      (fun t => t.reg 7 = 0xAABBCCDD) := by
  decide

theorem test_ldW_LS4 :
    leaves (exec (.ldW 0 6 7) (start 0x1000 [(6, 0xFFFFFFFE)] [] [(0x0, 0x33), (0x1, 0x44), (0xFFFFFFFE, 0x11), (0xFFFFFFFF, 0x22)]))
      (fun t => t.reg 7 = 0x44332211) := by
  decide

theorem test_ldH_LS2 :
    leaves (exec (.ldH 0 6 7) (start 0x1000 [(6, 0x2003)] [] [(0x2003, 0x1), (0x2004, 0x80)]))
      (fun t => t.reg 7 = 0xFFFF8001) := by
  decide

theorem test_ldH_LS6 :
    leaves (exec (.ldH 0x8000 6 7) (start 0x1000 [(6, 0xA000)] [] [(0x2000, 0xFF), (0x2001, 0x7F)]))
      (fun t => t.reg 7 = 0x7FFF) := by
  decide

theorem test_ldB_LS3 :
    leaves (exec (.ldB 0xFFFF 0 7) (start 0x1000 [] [] [(0xFFFFFFFF, 0x7F)]))
      (fun t => t.reg 7 = 0x7F) := by
  decide

theorem test_ldHu_LS7 :
    leaves (exec (.ldHu 0x7FFE 6 7) (start 0x1000 [(6, 0x1000)] [] [(0x8FFE, 0xFF), (0x8FFF, 0xFF)]))
      (fun t => t.reg 7 = 0xFFFF) := by
  decide

theorem test_ldBu_LS8 :
    leaves (exec (.ldBu 0xFFFF 6 7) (start 0x1000 [(6, 0x2000)] [] [(0x1FFF, 0xFE)]))
      (fun t => t.reg 7 = 0xFE) := by
  decide

theorem test_stW_LS10 :
    leaves (exec (.stW 7 0 6) (start 0x1000 [(6, 0x2001), (7, 0xA1B2C3D4)] [] [(0x1FFF, 0x0), (0x2000, 0x0), (0x2005, 0x0)]))
      (fun t => t.mem.read 0x1FFF = 0x0 ∧
        t.mem.read 0x2000 = 0x0 ∧
        t.mem.read 0x2001 = 0xD4 ∧
        t.mem.read 0x2002 = 0xC3 ∧
        t.mem.read 0x2003 = 0xB2 ∧
        t.mem.read 0x2004 = 0xA1) := by
  decide

theorem test_stH_LS11 :
    leaves (exec (.stH 0 2 6) (start 0x1000 [(6, 0x2000)] [] [(0x2002, 0xFF), (0x2003, 0xFF)]))
      (fun t => t.mem.read 0x2002 = 0x0 ∧ t.mem.read 0x2003 = 0x0) := by
  decide

theorem test_stB_LS12 :
    leaves (exec (.stB 7 0x8000 6) (start 0x1000 [(6, 0x1000), (7, 0x1FF)] [] []))
      (fun t => t.mem.read 0xFFFF9000 = 0xFF) := by
  decide

theorem test_sldW_LS13 :
    leaves (exec (.sldW 0xFC 7) (start 0x1000 [(30, 0x3000)] [] [(0x30FC, 0xD), (0x30FD, 0xF0), (0x30FE, 0xFE), (0x30FF, 0xCA)]))
      (fun t => t.reg 7 = 0xCAFEF00D) := by
  decide

theorem test_sldH_LS14 :
    leaves (exec (.sldH 0xFE 7) (start 0x1000 [(30, 0x3000)] [] [(0x30FE, 0x0), (0x30FF, 0x80)]))
      (fun t => t.reg 7 = 0xFFFF8000) := by
  decide

theorem test_sldB_LS16 :
    leaves (exec (.sldB 0 0) (start 0x1000 [(30, 0x3000)] [] [(0x3000, 0x80)]))
      (fun t => t.reg 0 = 0x0) := by
  decide

theorem test_sstW_LS17 :
    leaves (exec (.sstW 7 0xFC) (start 0x1000 [(7, 0x11223344), (30, 0x3000)] [] []))
      (fun t => t.mem.read 0x30FC = 0x44 ∧
        t.mem.read 0x30FD = 0x33 ∧
        t.mem.read 0x30FE = 0x22 ∧
        t.mem.read 0x30FF = 0x11) := by
  decide

theorem test_sstH_LS18 :
    leaves (exec (.sstH 7 0xFE) (start 0x1000 [(7, 0xAABBCCDD), (30, 0x3000)] [] []))
      (fun t => t.mem.read 0x30FE = 0xDD ∧ t.mem.read 0x30FF = 0xCC) := by
  decide

theorem test_sstB_LS19 :
    leaves (exec (.sstB 7 0x7F) (start 0x1000 [(7, 0xAABBCCDD), (30, 0x3000)] [] []))
      (fun t => t.mem.read 0x307F = 0xDD) := by
  decide

theorem test_sldBu_LS20 :
    leaves (exec (.sldBu 0 31) (start 0x1000 [(30, 0x3000)] [] [(0x3000, 0x80)]))
      (fun t => t.reg 31 = 0x80) := by
  decide

theorem test_sldHu_LS21 :
    leaves (exec (.sldHu 0 1) (start 0x1000 [(30, 0x3000)] [] [(0x3000, 0xFE), (0x3001, 0xFF)]))
      (fun t => t.reg 1 = 0xFFFE) := by
  decide

theorem test_mulReg_MU1 :
    leaves (exec (.mulReg 6 7 7) (start 0x1000 [(6, 0x10000), (7, 0x10000)] [] []))
      (fun t => t.reg 6 = 0x10000 ∧ t.reg 7 = 0x1) := by
  decide

theorem test_mulReg_MU3 :
    leaves (exec (.mulReg 6 7 8) (start 0x1000 [(6, 0x80000000), (7, 0x80000000)] [] []))
      (fun t => t.reg 7 = 0x0 ∧ t.reg 8 = 0x40000000) := by
  decide

theorem test_muluReg_MU7 :
    leaves (exec (.muluReg 6 7 8) (start 0x1000 [(6, 0xFFFFFFFF), (7, 0xFFFFFFFF)] [] []))
      (fun t => t.reg 7 = 0x1 ∧ t.reg 8 = 0xFFFFFFFE) := by
  decide

theorem test_mulImm9_MU8 :
    leaves (exec (.mulImm9 0x100 7 8) (start 0x1000 [(7, 0x1000000)] [] []))
      (fun t => t.reg 7 = 0x0 ∧ t.reg 8 = 0xFFFFFFFF) := by
  decide

theorem test_muluImm9_MU10 :
    leaves (exec (.muluImm9 0x1FF 7 8) (start 0x1000 [(7, 0xFFFFFFFF)] [] []))
      (fun t => t.reg 7 = 0xFFFFFE01 ∧ t.reg 8 = 0x1FE) := by
  decide

theorem test_mulhReg_MU11 :
    leaves (exec (.mulhReg 6 7) (start 0x1000 [(6, 0xFFFF8000), (7, 0x12348000)] [] []))
      (fun t => t.reg 7 = 0x40000000) := by
  decide

theorem test_mulhImm5_MU13 :
    leaves (exec (.mulhImm5 0x10 7) (start 0x1000 [(7, 0xABCD7FFF)] [] []))
      (fun t => t.reg 7 = 0xFFF80010) := by
  decide

theorem test_mulhi_MU14 :
    leaves (exec (.mulhi 0x7FFF 6 7) (start 0x1000 [(6, 0x18000)] [] []))
      (fun t => t.reg 7 = 0xC0008000) := by
  decide

theorem test_addReg_AR1 :
    leaves (exec (.addReg 6 7) (start 0x1000 [(6, 0x1), (7, 0xFFFFFFFF)] [(.psw, 0x0)] []))
      (fun t => t.reg 7 = 0x0 ∧ t.psw = 0x9) := by
  decide

theorem test_addReg_AR3 :
    leaves (exec (.addReg 6 0) (start 0x1000 [(6, 0x80000000)] [(.psw, 0x0)] []))
      (fun t => t.reg 0 = 0x0 ∧ t.psw = 0x2) := by
  decide

theorem test_addImm5_AR4 :
    leaves (exec (.addImm5 0x0F 7) (start 0x1000 [(7, 0x7FFFFFF1)] [(.psw, 0x0)] []))
      (fun t => t.reg 7 = 0x80000000 ∧ t.psw = 0x6) := by
  decide

theorem test_addi_AR6 :
    leaves (exec (.addi 0x7FFF 6 7) (start 0x1000 [(6, 0x7FFF8001)] [(.psw, 0x0)] []))
      (fun t => t.reg 7 = 0x80000000 ∧ t.psw = 0x6) := by
  decide

theorem test_sub_AR8 :
    leaves (exec (.sub 6 7) (start 0x1000 [(6, 0x1), (7, 0x80000000)] [(.psw, 0x0)] []))
      (fun t => t.reg 7 = 0x7FFFFFFF ∧ t.psw = 0x4) := by
  decide

theorem test_sub_AR9 :
    leaves (exec (.sub 6 7) (start 0x1000 [(6, 0x80000000), (7, 0x0)] [(.psw, 0x0)] []))
      (fun t => t.reg 7 = 0x80000000 ∧ t.psw = 0xE) := by
  decide

theorem test_subr_AR11 :
    leaves (exec (.subr 6 7) (start 0x1000 [(6, 0x3), (7, 0x5)] [(.psw, 0x0)] []))
      (fun t => t.reg 7 = 0xFFFFFFFE ∧ t.psw = 0xA) := by
  decide

theorem test_cmpReg_AR12 :
    leaves (exec (.cmpReg 6 7) (start 0x1000 [(6, 0xFFFFFFFF), (7, 0x0)] [(.psw, 0x0)] []))
      (fun t => t.reg 7 = 0x0 ∧ t.psw = 0x8) := by
  decide

theorem test_cmpImm5_AR14 :
    leaves (exec (.cmpImm5 0x0F 7) (start 0x1000 [(7, 0x80000000)] [(.psw, 0x0)] []))
      (fun t => t.psw = 0x4) := by
  decide

theorem test_movReg_AR15 :
    leaves (exec (.movReg 6 0) (start 0x1000 [(6, 0x5)] [] []))
      (fun t => t.reg 0 = 0x0 ∧ t.pc = 0x1002) := by
  decide

theorem test_movImm5_AR16 :
    leaves (exec (.movImm5 0x0F 7) (start 0x1000 [] [(.psw, 0x1F)] []))
      (fun t => t.reg 7 = 0xF ∧ t.psw = 0x1F) := by
  decide

theorem test_movImm32_AR17 :
    leaves (exec (.movImm32 0xFFFFFFFF 1) (start 0x1000 [] [] []))
      (fun t => t.reg 1 = 0xFFFFFFFF ∧ t.pc = 0x1006) := by
  decide

theorem test_movea_AR18 :
    leaves (exec (.movea 0x7FFF 6 7) (start 0x1000 [(6, 0xFFFF8001)] [(.psw, 0x0)] []))
      (fun t => t.reg 7 = 0x0 ∧ t.psw = 0x0) := by
  decide

theorem test_movhi_AR20 :
    leaves (exec (.movhi 0xFFFF 6 7) (start 0x1000 [(6, 0x10001)] [(.psw, 0x0)] []))
      (fun t => t.reg 7 = 0x1 ∧ t.psw = 0x0) := by
  decide

theorem test_setf_AR22 :
    leaves (exec (.setf .nh 7) (start 0x1000 [] [(.psw, 0x1)] []))
      (fun t => t.reg 7 = 0x1) := by
  decide

theorem test_setf_AR24 :
    leaves (exec (.setf .le 7) (start 0x1000 [] [(.psw, 0x6)] []))
      (fun t => t.reg 7 = 0x0) := by
  decide

theorem test_sasf_AR29 :
    leaves (exec (.sasf .c 7) (start 0x1000 [(7, 0xC0000000)] [(.psw, 0x8)] []))
      (fun t => t.reg 7 = 0x80000001 ∧ t.psw = 0x8) := by
  decide

theorem test_cmovReg_AR30 :
    leaves (exec (.cmovReg .v 6 7 7) (start 0x1000 [(6, 0x1), (7, 0x2)] [(.psw, 0x4)] []))
      (fun t => t.reg 7 = 0x1) := by
  decide

theorem test_cmovImm5_AR31 :
    leaves (exec (.cmovImm5 .sa 0x0F 0 8) (start 0x1000 [] [(.psw, 0x0)] []))
      (fun t => t.reg 8 = 0x0) := by
  decide

theorem test_cmovImm5_AR32 :
    leaves (exec (.cmovImm5 .t 0x10 7 8) (start 0x1000 [(7, 0x5)] [] []))
      (fun t => t.reg 8 = 0xFFFFFFF0) := by
  decide

theorem test_div_AR33 :
    leaves (exec (.div 6 7 8) (start 0x1000 [(6, 0xFFFFFFFF), (7, 0x80000000)] [(.psw, 0x8)] []))
      (fun t => t.reg 7 = 0x80000000 ∧ t.reg 8 = 0x0 ∧ t.psw = 0xE) := by
  decide

theorem test_div_AR36 :
    leaves (exec (.div 6 7 7) (start 0x1000 [(6, 0x2), (7, 0xFFFFFFF9)] [(.psw, 0x0)] []))
      (fun t => t.reg 7 = 0xFFFFFFFF ∧ t.psw = 0x2) := by
  decide

theorem test_divu_AR39 :
    leaves (exec (.divu 6 7 8) (start 0x1000 [(6, 0xFFFFFFFF), (7, 0x80000000)] [(.psw, 0x0)] []))
      (fun t => t.reg 7 = 0x0 ∧ t.reg 8 = 0x80000000 ∧ t.psw = 0x1) := by
  decide

theorem test_divu_AR40 :
    leaves (exec (.divu 6 7 0) (start 0x1000 [(6, 0x1), (7, 0xFFFFFFFF)] [(.psw, 0x0)] []))
      (fun t => t.reg 7 = 0xFFFFFFFF ∧ t.psw = 0x2) := by
  decide

theorem test_divhReg_AR41 :
    leaves (exec (.divhReg 6 7) (start 0x1000 [(6, 0xFFFF), (7, 0x80000000)] [(.psw, 0x0)] []))
      (fun t => t.reg 7 = 0x80000000 ∧ t.psw = 0x6) := by
  decide

theorem test_divhReg_AR42 :
    leaves (exec (.divhReg 6 7) (start 0x1000 [(6, 0x10002), (7, 0x7FFFFFFF)] [(.psw, 0x0)] []))
      (fun t => t.reg 7 = 0x3FFFFFFF ∧ t.psw = 0x0) := by
  decide

theorem test_divhReg3_AR44 :
    leaves (exec (.divhReg3 6 7 8) (start 0x1000 [(6, 0xFFFF8000), (7, 0x80000000)] [(.psw, 0x0)] []))
      (fun t => t.reg 7 = 0x10000 ∧ t.reg 8 = 0x0 ∧ t.psw = 0x0) := by
  decide

theorem test_divhu_AR45 :
    leaves (exec (.divhu 6 7 8) (start 0x1000 [(6, 0xABCD0003), (7, 0xB)] [(.psw, 0x0)] []))
      (fun t => t.reg 7 = 0x3 ∧ t.reg 8 = 0x2 ∧ t.psw = 0x0) := by
  decide

theorem test_divhu_AR46 :
    leaves (exec (.divhu 6 7 8) (start 0x1000 [(6, 0x8000), (7, 0x80000000)] [(.psw, 0x0)] []))
      (fun t => t.reg 7 = 0x10000 ∧ t.reg 8 = 0x0 ∧ t.psw = 0x0) := by
  decide

theorem test_sataddReg_SA1 :
    leaves (exec (.sataddReg 6 7) (start 0x1000 [(6, 0xFFFFFFFF), (7, 0x80000000)] [(.psw, 0x0)] []))
      (fun t => t.reg 7 = 0x80000000 ∧ t.psw = 0x1E) := by
  decide

theorem test_sataddReg_SA2 :
    leaves (exec (.sataddReg 6 7) (start 0x1000 [(6, 0xFFFFFFFF), (7, 0x1)] [(.psw, 0x10)] []))
      (fun t => t.reg 7 = 0x0 ∧ t.psw = 0x19) := by
  decide

theorem test_sataddImm5_SA3 :
    leaves (exec (.sataddImm5 0x10 7) (start 0x1000 [(7, 0x80000005)] [(.psw, 0x0)] []))
      (fun t => t.reg 7 = 0x80000000 ∧ t.psw = 0x1E) := by
  decide

theorem test_sataddImm5_SA4 :
    leaves (exec (.sataddImm5 0x0F 7) (start 0x1000 [(7, 0x7FFFFFF0)] [(.psw, 0x0)] []))
      (fun t => t.reg 7 = 0x7FFFFFFF ∧ t.psw = 0x0) := by
  decide

theorem test_satsub_SA5 :
    leaves (exec (.satsub 6 7) (start 0x1000 [(6, 0x80000000), (7, 0x0)] [(.psw, 0x0)] []))
      (fun t => t.reg 7 = 0x7FFFFFFF ∧ t.psw = 0x1C) := by
  decide

theorem test_satsubi_SA7 :
    leaves (exec (.satsubi 0x7FFF 6 7) (start 0x1000 [(6, 0x80000001)] [(.psw, 0x0)] []))
      (fun t => t.reg 7 = 0x80000000 ∧ t.psw = 0x16) := by
  decide

theorem test_satsubi_SA8 :
    leaves (exec (.satsubi 0xFFFF 6 7) (start 0x1000 [(6, 0x7FFFFFFE)] [(.psw, 0x0)] []))
      (fun t => t.reg 7 = 0x7FFFFFFF ∧ t.psw = 0x8) := by
  decide

theorem test_satsubr_SA9 :
    leaves (exec (.satsubr 6 7) (start 0x1000 [(6, 0x80000000), (7, 0x1)] [(.psw, 0x0)] []))
      (fun t => t.reg 7 = 0x80000000 ∧ t.psw = 0x16) := by
  decide

theorem test_satsubr_SA10 :
    leaves (exec (.satsubr 6 7) (start 0x1000 [(6, 0x7FFFFFFF), (7, 0xFFFFFFFF)] [(.psw, 0x0)] []))
      (fun t => t.reg 7 = 0x7FFFFFFF ∧ t.psw = 0x1C) := by
  decide

theorem test_orReg_LO1 :
    leaves (exec (.orReg 0 7) (start 0x1000 [(7, 0x0)] [(.psw, 0xC)] []))
      (fun t => t.reg 7 = 0x0 ∧ t.psw = 0x9) := by
  decide

theorem test_xorReg_LO2 :
    leaves (exec (.xorReg 7 7) (start 0x1000 [(7, 0xDEADBEEF)] [(.psw, 0x0)] []))
      (fun t => t.reg 7 = 0x0 ∧ t.psw = 0x1) := by
  decide

theorem test_andReg_LO3 :
    leaves (exec (.andReg 6 0) (start 0x1000 [(6, 0xFFFFFFFF)] [(.psw, 0x2)] []))
      (fun t => t.reg 0 = 0x0 ∧ t.psw = 0x1) := by
  decide

theorem test_notReg_LO4 :
    leaves (exec (.notReg 0 7) (start 0x1000 [] [(.psw, 0x0)] []))
      (fun t => t.reg 7 = 0xFFFFFFFF ∧ t.psw = 0x2) := by
  decide

theorem test_tst_LO5 :
    leaves (exec (.tst 7 7) (start 0x1000 [(7, 0x80000000)] [(.psw, 0x0)] []))
      (fun t => t.reg 7 = 0x80000000 ∧ t.psw = 0x2) := by
  decide

theorem test_ori_LO6 :
    leaves (exec (.ori 0xFFFF 0 7) (start 0x1000 [] [(.psw, 0x0)] []))
      (fun t => t.reg 7 = 0xFFFF ∧ t.psw = 0x0) := by
  decide

theorem test_xori_LO7 :
    leaves (exec (.xori 0x8000 6 7) (start 0x1000 [(6, 0x8000)] [(.psw, 0x0)] []))
      (fun t => t.reg 7 = 0x0 ∧ t.psw = 0x1) := by
  decide

theorem test_andi_LO8 :
    leaves (exec (.andi 0xFFFF 6 7) (start 0x1000 [(6, 0xFFFF8000)] [(.psw, 0x0)] []))
      (fun t => t.reg 7 = 0x8000 ∧ t.psw = 0x0) := by
  decide

theorem test_shlImm5_LO9 :
    leaves (exec (.shlImm5 0 7) (start 0x1000 [(7, 0x80000001)] [(.psw, 0xC)] []))
      (fun t => t.reg 7 = 0x80000001 ∧ t.psw = 0x2) := by
  decide

theorem test_shlImm5_LO10 :
    leaves (exec (.shlImm5 0x1F 7) (start 0x1000 [(7, 0x3)] [(.psw, 0x0)] []))
      (fun t => t.reg 7 = 0x80000000 ∧ t.psw = 0xA) := by
  decide

theorem test_shlReg_LO11 :
    leaves (exec (.shlReg 6 7) (start 0x1000 [(6, 0x20), (7, 0xFFFFFFFF)] [(.psw, 0x8)] []))
      (fun t => t.reg 7 = 0xFFFFFFFF ∧ t.psw = 0x2) := by
  decide

theorem test_shrImm5_LO14 :
    leaves (exec (.shrImm5 1 7) (start 0x1000 [(7, 0x80000001)] [(.psw, 0x0)] []))
      (fun t => t.reg 7 = 0x40000000 ∧ t.psw = 0x8) := by
  decide

theorem test_shrReg_LO15 :
    leaves (exec (.shrReg 6 7) (start 0x1000 [(6, 0x3F), (7, 0x80000000)] [(.psw, 0x0)] []))
      (fun t => t.reg 7 = 0x1 ∧ t.psw = 0x0) := by
  decide

theorem test_sarImm5_LO16 :
    leaves (exec (.sarImm5 0x1F 7) (start 0x1000 [(7, 0x40000000)] [(.psw, 0x0)] []))
      (fun t => t.reg 7 = 0x0 ∧ t.psw = 0x9) := by
  decide

theorem test_sarImm5_LO17 :
    leaves (exec (.sarImm5 1 7) (start 0x1000 [(7, 0x80000001)] [(.psw, 0x0)] []))
      (fun t => t.reg 7 = 0xC0000000 ∧ t.psw = 0xA) := by
  decide

theorem test_sarReg_LO18 :
    leaves (exec (.sarReg 6 7) (start 0x1000 [(6, 0x100), (7, 0x80000000)] [(.psw, 0x8)] []))
      (fun t => t.reg 7 = 0x80000000 ∧ t.psw = 0x2) := by
  decide

theorem test_sarReg_LO19 :
    leaves (exec (.sarReg 7 7) (start 0x1000 [(7, 0xFFFFFF04)] [(.psw, 0x0)] []))
      (fun t => t.reg 7 = 0xFFFFFFF0 ∧ t.psw = 0x2) := by
  decide

theorem test_bsw_LO20 :
    leaves (exec (.bsw 7 8) (start 0x1000 [(7, 0x0)] [(.psw, 0x0)] []))
      (fun t => t.reg 8 = 0x0 ∧ t.psw = 0x9) := by
  decide

theorem test_bsw_LO21 :
    leaves (exec (.bsw 7 7) (start 0x1000 [(7, 0xFF)] [(.psw, 0x0)] []))
      (fun t => t.reg 7 = 0xFF000000 ∧ t.psw = 0xA) := by
  decide

theorem test_bsh_LO22 :
    leaves (exec (.bsh 7 8) (start 0x1000 [(7, 0xFFFF0000)] [(.psw, 0x0)] []))
      (fun t => t.reg 8 = 0xFFFF0000 ∧ t.psw = 0xB) := by
  decide

theorem test_bsh_LO23 :
    leaves (exec (.bsh 7 8) (start 0x1000 [(7, 0x1234)] [(.psw, 0x0)] []))
      (fun t => t.reg 8 = 0x3412 ∧ t.psw = 0x0) := by
  decide

theorem test_hsw_LO24 :
    leaves (exec (.hsw 7 8) (start 0x1000 [(7, 0x18000)] [(.psw, 0x0)] []))
      (fun t => t.reg 8 = 0x80000001 ∧ t.psw = 0x2) := by
  decide

theorem test_hsw_LO25 :
    leaves (exec (.hsw 7 8) (start 0x1000 [(7, 0x0)] [(.psw, 0x0)] []))
      (fun t => t.reg 8 = 0x0 ∧ t.psw = 0x9) := by
  decide

theorem test_sxb_LO27 :
    leaves (exec (.sxb 7) (start 0x1000 [(7, 0x7F)] [(.psw, 0xF)] []))
      (fun t => t.reg 7 = 0x7F ∧ t.psw = 0xF) := by
  decide

theorem test_sxh_LO28 :
    leaves (exec (.sxh 7) (start 0x1000 [(7, 0x8000)] [] []))
      (fun t => t.reg 7 = 0xFFFF8000) := by
  decide

theorem test_zxb_LO29 :
    leaves (exec (.zxb 7) (start 0x1000 [(7, 0xFFFFFFFF)] [] []))
      (fun t => t.reg 7 = 0xFF) := by
  decide

theorem test_zxh_LO30 :
    leaves (exec (.zxh 7) (start 0x1000 [(7, 0xFFFFFFFF)] [] []))
      (fun t => t.reg 7 = 0xFFFF) := by
  decide

theorem test_bcond_BR7 :
    leaves (exec (.bcond .lt 4) (start 0x1000 [] [(.psw, 0x2)] []))
      (fun t => t.pc = 0x1004) := by
  decide

theorem test_bcond_BR22 :
    leaves (exec (.bcond .t 0x100) (start 0x10 [] [] []))
      (fun t => t.pc = 0x3FFFF10) := by
  decide

theorem test_nop_BR24 :
    leaves (exec (.nop) (start 0x3FFFFFE [] [] []))
      (fun t => t.pc = 0x0) := by
  decide

theorem test_jr_BR25 :
    leaves (exec (.jr 0x1FFFFE) (start 0x1000 [] [] []))
      (fun t => t.pc = 0x200FFE) := by
  decide

theorem test_jr_BR27 :
    leaves (exec (.jr 0x200000) (start 0x1000 [] [] []))
      (fun t => t.pc = 0x3E01000) := by
  decide

theorem test_jarl_BR29 :
    leaves (exec (.jarl 0x3FFFFE 31) (start 0x3FFFFFC [] [] []))
      (fun t => t.reg 31 = 0x0 ∧ t.pc = 0x3FFFFFA) := by
  decide

theorem test_jmp_BR30 :
    leaves (exec (.jmp 6) (start 0x1000 [(6, 0xFFFFFFFF)] [] []))
      (fun t => t.pc = 0x3FFFFFE) := by
  decide

theorem test_set1Disp_BI1 :
    leaves (exec (.set1Disp 7 0x8000 6) (start 0x1000 [(6, 0xB000)] [(.psw, 0xF)] [(0x3000, 0x80)]))
      (fun t => t.psw = 0xE ∧ t.mem.read 0x3000 = 0x80) := by
  decide

theorem test_clr1Disp_BI2 :
    leaves (exec (.clr1Disp 0 0 6) (start 0x1000 [(6, 0x3000)] [(.psw, 0x0)] [(0x3000, 0xFE)]))
      (fun t => t.psw = 0x1 ∧ t.mem.read 0x3000 = 0xFE) := by
  decide

theorem test_not1Disp_BI3 :
    leaves (exec (.not1Disp 7 1 6) (start 0x1000 [(6, 0x3000)] [(.psw, 0x0)] [(0x3001, 0x7F)]))
      (fun t => t.psw = 0x1 ∧ t.mem.read 0x3001 = 0xFF) := by
  decide

theorem test_tst1Disp_BI4 :
    leaves (exec (.tst1Disp 0 0 0) (start 0x1000 [] [(.psw, 0x0)] [(0x0, 0x1)]))
      (fun t => t.psw = 0x0) := by
  decide

theorem test_set1Reg_BI5 :
    leaves (exec (.set1Reg 7 6) (start 0x1000 [(6, 0x3000), (7, 0xFFFFFFF8)] [(.psw, 0x0)] [(0x3000, 0x0)]))
      (fun t => t.psw = 0x1 ∧ t.mem.read 0x3000 = 0x1) := by
  decide

theorem test_clr1Reg_BI6 :
    leaves (exec (.clr1Reg 7 6) (start 0x1000 [(6, 0x3000), (7, 0x7)] [(.psw, 0x0)] [(0x3000, 0xFF)]))
      (fun t => t.psw = 0x0 ∧ t.mem.read 0x3000 = 0x7F) := by
  decide

theorem test_not1Reg_BI7 :
    leaves (exec (.not1Reg 0 6) (start 0x1000 [(6, 0x3000)] [(.psw, 0x0)] [(0x3000, 0xFF)]))
      (fun t => t.psw = 0x0 ∧ t.mem.read 0x3000 = 0xFE) := by
  decide

theorem test_tst1Reg_BI8 :
    leaves (exec (.tst1Reg 7 6) (start 0x1000 [(6, 0x3000), (7, 0xF)] [(.psw, 0x0)] [(0x3000, 0x80)]))
      (fun t => t.psw = 0x0) := by
  decide

theorem test_ldsr_SP7 :
    leaves (exec (.ldsr 6 18) (start 0x1000 [(6, 0x4000401)] [] []))
      (fun t => t.dbpc = 0x401) := by
  decide

theorem test_ldsr_SP10 :
    leaves (exec (.ldsr 0 5) (start 0x1000 [] [(.psw, 0xFF)] []))
      (fun t => t.psw = 0x0) := by
  decide

theorem test_stsr_SP16 :
    leaves (exec (.stsr 4 7) (start 0x1000 [] [(.ecr, 0x10005F)] []))
      (fun t => t.reg 7 = 0x10005F) := by
  decide

theorem test_di_SP20 :
    leaves (exec (.di) (start 0x1000 [] [(.psw, 0x20)] []))
      (fun t => t.psw = 0x20 ∧ t.pc = 0x1004) := by
  decide

theorem test_ei_SP21 :
    leaves (exec (.ei) (start 0x1000 [] [(.psw, 0xFF)] []))
      (fun t => t.psw = 0xDF) := by
  decide

theorem test_halt_SP22 :
    leaves (exec (.halt) (start 0x1000 [] [(.psw, 0x20)] []))
      (fun t => t.psw = 0x20 ∧ t.pc = 0x1004 ∧ t.halted = true) := by
  decide

theorem test_callt_SP23 :
    leaves (exec (.callt 0x3F) (start 0x1000 [] [(.psw, 0x1F), (.ctbp, 0x3FF0000)] [(0x3FF007E, 0xFE), (0x3FF007F, 0xFF)]))
      (fun t => t.ctpc = 0x1002 ∧ t.ctpsw = 0x1F ∧ t.psw = 0x1F ∧ t.pc = 0x3FFFFFE) := by
  decide

theorem test_callt_SP24 :
    leaves (exec (.callt 0) (start 0x3FFFFFE [] [(.ctbp, 0x0)] [(0x0, 0x2), (0x1, 0x0)]))
      (fun t => t.ctpc = 0x0 ∧ t.pc = 0x2) := by
  decide

theorem test_ctret_SP25 :
    leaves (exec (.ctret) (start 0x1000 [] [(.psw, 0x0), (.ctpc, 0x1003), (.ctpsw, 0xFF)] []))
      (fun t => t.psw = 0xFF ∧ t.pc = 0x1002) := by
  decide

theorem test_switch_SP26 :
    leaves (exec (.switch 6) (start 0x1000 [(6, 0x0)] [] [(0x1002, 0x0), (0x1003, 0x80)]))
      (fun t => t.pc = 0x3FF1002) := by
  decide

theorem test_switch_SP27 :
    leaves (exec (.switch 6) (start 0x1000 [(6, 0xFFFFFFFF)] [] [(0x1000, 0x46), (0x1001, 0x0)]))
      (fun t => t.pc = 0x108E) := by
  decide

theorem test_trap_SP28 :
    leaves (exec (.trap 0) (start 0x2000 [] [(.psw, 0x0), (.ecr, 0xFFFFFFFF)] []))
      (fun t => t.eipc = 0x2004 ∧ t.eipsw = 0x0 ∧ t.ecr = 0xFFFF0040 ∧ t.psw = 0x60 ∧ t.pc = 0x40) := by
  decide

theorem test_trap_SP30 :
    leaves (exec (.trap 0x10) (start 0x2000 [] [(.psw, 0x80)] []))
      (fun t => t.ecr = 0x50 ∧ t.psw = 0xE0 ∧ t.pc = 0x50) := by
  decide

theorem test_reti_SP31 :
    leaves (exec (.reti) (start 0x1000 [] [(.psw, 0xE0), (.eipc, 0x1000), (.eipsw, 0x0), (.fepc, 0x2000), (.fepsw, 0x1F)] []))
      (fun t => t.psw = 0x0 ∧ t.pc = 0x1000) := by
  decide

theorem test_reti_SP33 :
    leaves (exec (.reti) (start 0x1000 [] [(.psw, 0x80), (.eipc, 0x1000), (.eipsw, 0x0), (.fepc, 0x2000), (.fepsw, 0x9F)] []))
      (fun t => t.psw = 0x9F ∧ t.pc = 0x2000) := by
  decide

theorem test_prepare_SP36 :
    leaves (exec (.prepare 0x800 1) (start 0x1000 [(3, 0x8002), (31, 0xAABBCCDD)] [] [(0x8000, 0x0), (0x8001, 0x0)]))
      (fun t => t.reg 3 = 0x7FFA ∧
        t.mem.read 0x7FFC = 0xDD ∧
        t.mem.read 0x7FFD = 0xCC ∧
        t.mem.read 0x7FFE = 0xBB ∧
        t.mem.read 0x7FFF = 0xAA ∧
        t.mem.read 0x8000 = 0x0 ∧
        t.mem.read 0x8001 = 0x0) := by
  decide

theorem test_prepareSp_SP37 :
    leaves (exec (.prepareSp 0x400 0) (start 0x1000 [(3, 0x8000), (30, 0x11112222)] [] []))
      (fun t => t.reg 3 = 0x7FFC ∧
        t.reg 30 = 0x7FFC ∧
        t.mem.read 0x7FFC = 0x22 ∧
        t.mem.read 0x7FFD = 0x22 ∧
        t.mem.read 0x7FFE = 0x11 ∧
        t.mem.read 0x7FFF = 0x11) := by
  decide

theorem test_prepareImm16_SP38 :
    leaves (exec (.prepareImm16 0 0 0x7FFF) (start 0x2000 [(3, 0x8000)] [] []))
      (fun t => t.reg 30 = 0x7FFF ∧ t.reg 3 = 0x8000 ∧ t.pc = 0x2006) := by
  decide

theorem test_dispose_SP41 :
    leaves (exec (.dispose 1 0x800) (start 0x1000 [(3, 0x7FFA)] [] [(0x7FFC, 0xDD), (0x7FFD, 0xCC), (0x7FFE, 0xBB), (0x7FFF, 0xAA)]))
      (fun t => t.reg 31 = 0xAABBCCDD ∧ t.reg 3 = 0x8002) := by
  decide

theorem test_disposeJump_SP42 :
    leaves (exec (.disposeJump 0 0x800 31) (start 0x2000 [(3, 0x7FFC), (31, 0x5000)] [] [(0x7FFC, 0x1), (0x7FFD, 0x30), (0x7FFE, 0x0), (0x7FFF, 0xFC)]))
      (fun t => t.reg 31 = 0xFC003001 ∧ t.reg 3 = 0x8000 ∧ t.pc = 0x3000) := by
  decide

/-- 47_special.md R405, ff = 10 and ff = 11. -/
theorem test_prepareHi16 :
    leaves (exec (.prepareHi16 0 1 0x8001) (start 0x1000 [(3, 0x8000)] [] []))
      (fun t => t.reg 30 = 0x80010000 ∧ t.reg 3 = 0x7FFC ∧ t.pc = 0x1006) := by
  decide

theorem test_prepareImm32 :
    leaves (exec (.prepareImm32 1 0 0x12345678) (start 0x1000 [(3, 0x8000), (20, 0xAB)] [] []))
      (fun t => t.reg 30 = 0x12345678 ∧ t.reg 3 = 0x7FFC ∧ t.pc = 0x1008 ∧ t.mem.read 0x7FFC = 0xAB) := by
  decide

/-- 48_debug.md R431, 60_exceptions.md R464. -/
theorem test_dbtrap :
    leaves (exec .dbtrap (start 0x2000 [] [(.psw, 0x1F), (.ecr, 0x00100080)] []))
      (fun t => t.dbpc = 0x2002 ∧ t.dbpsw = 0x1F ∧ t.psw = 0xFF ∧ t.dir = 1 ∧ t.pc = 0x60 ∧ t.ecr = 0x00100080) := by
  decide

/-- 48_debug.md R432. -/
theorem test_dbret :
    leaves (exec .dbret (start 0x60 [] [(.psw, 0xE0), (.dir, 1), (.dbpc, 0x2003), (.dbpsw, 0x1F)] []))
      (fun t => t.pc = 0x2002 ∧ t.psw = 0x1F ∧ t.dir = 0) := by
  decide

/-- 60_exceptions.md R463: an illegal instruction code, its other bits of no effect. -/
theorem test_illegal0111 :
    leaves (exec (.illegal0111 0x1F 0x1F 0x1F 0x3F) (start 0x2000 [] [] []))
      (fun t => t.dbpc = 0x2004 ∧ t.dbpsw = 0 ∧ t.psw = 0xE0 ∧ t.dir = 1 ∧ t.pc = 0x60) := by
  decide

theorem test_illegal1xxx :
    leaves (exec (.illegal1xxx 0 0 0 0 0) (start 0x3FFFFFE [] [(.psw, 0x80)] []))
      (fun t => t.dbpc = 2 ∧ t.dbpsw = 0x80 ∧ t.psw = 0xE0 ∧ t.dir = 1 ∧ t.pc = 0x60) := by
  decide

/-- 95_test_vectors.md AR38: a division by zero: pc and OV; the free values are not looked at. -/
theorem test_div_AR38 :
    leaves (exec (.div 0 7 8) (start 0x1000 [(7, 7)] [] [])) (fun t => t.pc = 0x1004) ∧
    (divideSigned .div 7 0 0).ov = true := by
  decide

/-! ### The hypotheses of the statements can be met -/

/-- A program at 1000H: ADD r6, r7. -/
def addAt1000 : State := start 0x1000 [(6, 2), (7, 3)] [] [(0x1000, 0xC6), (0x1001, 0x39)]

/-- The same with the request lines of one boundary. -/
def requesting (psw : Word) (r : Requests) : State :=
  { addAt1000 with psw := psw, host := [{ reset := false, lines := some r }] }

theorem witness_DecodeEncode : (Instr.disposeJump 0x1F 0xFFF 31).wellFormed = true := by decide

theorem witness_LengthFromHalfWords :
    decodeHalves 0x39C6#16 0 0 0 = .ok (.addReg 6 7) ∧
    decodeHalves 0x0626#16 0x5678#16 0x1234#16 0 = .ok (.movImm32 0x12345678 6) ∧
    decodeHalves 0x0780#16 0x0003#16 0 0 = .ok (.prepareSp 0 0) ∧
    decodeHalves 0x0780#16 0x000B#16 1 0 = .ok (.prepareImm16 0 0 1) ∧
    decodeHalves 0x0780#16 0x0013#16 1 0 = .ok (.prepareHi16 0 0 1) ∧
    decodeHalves 0x0780#16 0x001B#16 1 2 = .ok (.prepareImm32 0 0 0x00020001) ∧
    decodeHalves 0x0780#16 0x0001#16 0 0 = .ok (.prepare 0 0) ∧
    decodeHalves 0x3E06#16 0x7FFF#16 0 0 = .ok (.addi 0x7FFF 6 7) := by
  refine ⟨rfl, rfl, rfl, rfl, rfl, rfl, rfl, rfl⟩

theorem witness_EncodeDecode : decodeHalves 0x0780#16 0x001B#16 1 2 = .ok (.prepareImm32 0 0 0x00020001) := rfl

/-- The lowest and the highest illegal code, and the words beside them. -/
theorem witness_IllegalInstructionClass :
    decodeHalves 0x07E0#16 0x0380#16 0 0 = .ok (.illegal0111 0 0 0 0) ∧
    decodeHalves 0x07E0#16 0x0400#16 0 0 = .ok (.illegal1xxx 0 0 0 0 0) ∧
    decodeHalves 0xFFFF#16 0xFFFE#16 0 0 = .ok (.illegal1xxx 31 31 31 7 63) ∧
    decodeHalves 0xFFFF#16 0xFFFF#16 0 0 = .ok (.ldHu 0xFFFE 31 31) := by
  refine ⟨rfl, rfl, rfl, rfl⟩

/-- A word for each clause of UndefinedEncodings, the eight cells of the extended map among them. -/
theorem witness_UndefinedEncodings :
    (let h0 := 0xF040#16; h0.extractLsb' 5 6 = 0b000010#6 ∧ h0.extractLsb' 0 5 = 0#5 ∧ h0.extractLsb' 11 5 ≠ 31#5) ∧
    (let h0 := 0x02FF#16; h0.extractLsb' 11 5 = 0#5 ∧ h0.extractLsb' 5 6 = 0b010111#6) ∧
    (let h0 := 0x06FF#16; h0.extractLsb' 11 5 = 0#5 ∧ h0.extractLsb' 5 6 = 0b110111#6) ∧
    (let h0 := 0x07FF#16; let h1 := 0xFFFF#16;
      h0.extractLsb' 11 5 = 0#5 ∧ h0.extractLsb' 5 6 = 0b111111#6 ∧ h1.getLsbD 0 = true) ∧
    (let h0 := 0x07BF#16; let h1 := 0xFFE9#16;
      h0.extractLsb' 11 5 = 0#5 ∧ h0.extractLsb' 6 5 = 0b11110#5 ∧ h1.getLsbD 0 = true ∧
        h1.extractLsb' 0 5 ≠ 0b00001#5 ∧ h1.extractLsb' 0 3 ≠ 0b011#3) ∧
    (let h0 := 0x0FE0#16;
      h0.extractLsb' 5 6 = 0b111111#6 ∧ h0.extractLsb' 11 5 ≠ 0#5 ∧ h0.extractLsb' 11 5 ≠ 0b10000#5) ∧
    ([0x0060#16, 0x0142#16, 0x0160#16, 0x0180#16, 0x01FE#16, 0x02A0#16, 0x02E0#16, 0x0346#16, 0x0360#16].all fun h1 =>
      !h1.getLsbD 0 && decide (h1.extractLsb' 5 6 = 0b000011#6 ∨
        (h1.extractLsb' 5 6 = 0b001010#6 ∧ h1.extractLsb' 1 2 = 0b01#2) ∨ h1.extractLsb' 5 6 = 0b001011#6 ∨
        h1.extractLsb' 7 4 = 0b0011#4 ∨ h1.extractLsb' 5 6 = 0b010101#6 ∨ h1.extractLsb' 5 6 = 0b010111#6 ∨
        (h1.extractLsb' 5 6 = 0b011010#6 ∧ h1.extractLsb' 1 2 = 0b11#2) ∨ h1.extractLsb' 5 6 = 0b011011#6)) = true := by
  decide

/-- The last half-word of the program space, where the next fetch address is 0. -/
theorem witness_FetchedHalfWords :
    isPc 0x03FFFFFE#32 ∧ (0 : Nat) < 4 ∧ (3 : Nat) < 4 ∧ addAt1000.inHostArea 0#32 = false := by
  refine ⟨rfl, by decide, by decide, by decide⟩

theorem test_fetch_continues_at_zero :
    ({ addAt1000 with pc := 0x03FFFFFE#32 } : State).fetchAddress 1 = 0#32 ∧
      (start 0x03FFEFFE [] [] [(0x03FFEFFE, 0x26), (0x03FFEFFF, 0x06)]).fetchHalf 0 = 0x0626#16 := by
  decide

/-- A store to internal ROM and to a read-only bank is lost; each is read and internal RAM is written (20_memory.md R108). -/
theorem test_stores_by_area :
    let p : Product := { nmiInputs := [.nmi0], iromSize := 0x20000, iramSize := 0x1000,
                         extMem := [{ area := { base := 0x100000, size := 0x1000 }, writable := false }] }
    let s : State := { start 0x1000 [] [] [(0x1FFFF, 0x11), (0x100000, 0x22)] with product := p }
    (s.store1 0x1FFFF#32 0xEE).load1 0x1FFFF#32 = 0x11#8 ∧ (s.store1 0x100000#32 0xEE).load1 0x100000#32 = 0x22#8 ∧
      (s.store1 0x03FFEFFF#32 0xEE).load1 0x03FFEFFF#32 = 0xEE#8 ∧ s.target 0x20000#32 = .host ∧
      s.target 0x03FFE000#32 = .ram ∧ s.target 0x03FFDFFF#32 = .host ∧ s.target 0x03FFF000#32 = .host := by
  decide

theorem test_absent_nmi_is_not_taken :
    let s : State := { requesting 0#32 { nmi0 := false, nmi1 := true, nmi2 := true, int := none } with
      product := { Product.standard with nmiInputs := [.nmi0] } }
    leaves (step s) (fun t => t.pc = 0x1002 ∧ t.requests = Requests.none) := by
  decide

theorem witness_StepRunsDecoded :
    addAt1000.resetAsserted = false ∧ addAt1000.takeInput.staysHalted = false ∧ addAt1000.takeInput.accepted = none ∧
    decodeHalves (addAt1000.fetchHalf 0) (addAt1000.fetchHalf 1) (addAt1000.fetchHalf 2) (addAt1000.fetchHalf 3) =
      .ok (.addReg 6 7) := by
  refine ⟨rfl, rfl, rfl, rfl⟩

theorem witness_StepRefusesUndefined :
    let s := start 0x1000 [] [] [(0x1000, 0x40), (0x1001, 0x08)]
    s.resetAsserted = false ∧ s.takeInput.staysHalted = false ∧ s.takeInput.accepted = none ∧
      decodeHalves (s.fetchHalf 0) (s.fetchHalf 1) (s.fetchHalf 2) (s.fetchHalf 3) = .error .divhReservedRegister := by
  refine ⟨rfl, rfl, rfl, rfl⟩

theorem witness_MaskableInterruptEntry :
    let r : Requests := { nmi0 := false, nmi1 := false, nmi2 := false, int := some 0x0080#16 }
    let s := requesting 0x1F#32 r
    isPc s.pc ∧ s.resetAsserted = false ∧ s.acceptPoint = true ∧ s.takeInput.requests = r ∧ s.flag .np = false ∧
      s.flag .id = false := by
  refine ⟨rfl, rfl, rfl, rfl, rfl, rfl⟩

/-- NMI0 and NMI1 with NP = 0 and ID = 1, NMI2 with NP = 1 and all others pending. -/
theorem witness_NonMaskableInterruptEntry :
    (let s := requesting 0x20#32 { nmi0 := true, nmi1 := false, nmi2 := false, int := some 0x0080#16 };
      isPc s.pc ∧ s.resetAsserted = false ∧ s.acceptPoint = true ∧ s.takeInput.requests.nmi2 = false ∧
        s.takeInput.requests.nmi1 = false ∧ s.takeInput.requests.nmi0 = true ∧ s.flag .np = false) ∧
    (let s := requesting 0x20#32 { nmi0 := true, nmi1 := true, nmi2 := false, int := none };
      isPc s.pc ∧ s.resetAsserted = false ∧ s.acceptPoint = true ∧ s.takeInput.requests.nmi2 = false ∧
        s.takeInput.requests.nmi1 = true ∧ s.flag .np = false) ∧
    (let s := requesting 0xA0#32 { nmi0 := true, nmi1 := true, nmi2 := true, int := some 0x0080#16 };
      isPc s.pc ∧ s.resetAsserted = false ∧ s.acceptPoint = true ∧ s.takeInput.requests.nmi2 = true) := by
  refine ⟨⟨rfl, rfl, rfl, rfl, rfl, rfl, rfl⟩, ⟨rfl, rfl, rfl, rfl, rfl, rfl⟩, rfl, rfl, rfl, rfl⟩

theorem witness_InterruptEntrySequences :
    isPc 0x03FFFFFE#32 ∧ (NmiInput.nmi2, 2) ∈ [(NmiInput.nmi0, 0), (.nmi1, 1), (.nmi2, 2)] := by
  refine ⟨rfl, by decide⟩

/-- Each case of RequestsHeld with a request pending. -/
theorem witness_RequestsHeld :
    (let s := { requesting 0#32 { nmi0 := true, nmi1 := true, nmi2 := true, int := none } with acceptPoint := false };
      s.resetAsserted = false ∧ s.takeInput.staysHalted = false ∧ s.acceptPoint = false ∧
        s.fetch = .ok (.addReg 6 7)) ∧
    (let s := requesting 0x80#32 { nmi0 := true, nmi1 := true, nmi2 := false, int := some 0x0080#16 };
      s.resetAsserted = false ∧ s.takeInput.staysHalted = false ∧ s.takeInput.requests.nmi2 = false ∧
        s.flag .np = true ∧ s.fetch = .ok (.addReg 6 7)) ∧
    (let s := requesting 0x20#32 { nmi0 := false, nmi1 := false, nmi2 := false, int := some 0x0080#16 };
      s.resetAsserted = false ∧ s.takeInput.staysHalted = false ∧ s.takeInput.requests.nmi2 = false ∧
        s.takeInput.requests.nmi1 = false ∧ s.takeInput.requests.nmi0 = false ∧ s.flag .id = true ∧
        s.fetch = .ok (.addReg 6 7)) := by
  refine ⟨⟨rfl, rfl, rfl, rfl⟩, ⟨rfl, rfl, rfl, rfl, rfl⟩, rfl, rfl, rfl, rfl, rfl, rfl, rfl⟩

/-- Halted with no request, and halted with a request that ID = 1 does not let in. -/
theorem witness_HaltMode :
    (let s := { addAt1000 with halted := true };
      s.halted = true ∧ s.resetAsserted = false ∧ s.takeInput.requests = Requests.none) ∧
    (let s := { requesting 0x20#32 { nmi0 := false, nmi1 := false, nmi2 := false, int := some 0x0080#16 } with
      halted := true };
      s.halted = true ∧ s.resetAsserted = false ∧ s.takeInput.requests ≠ Requests.none ∧
        s.takeInput.accepted = none ∧ s.fetch = .ok (.addReg 6 7)) := by
  refine ⟨⟨rfl, rfl, rfl⟩, rfl, rfl, ?_, rfl, rfl⟩
  decide

theorem witness_SystemReset :
    let input : HostInput := { reset := true, lines := none }
    ({ addAt1000 with halted := true, host := [input] } : State).host = input :: [] ∧ input.reset = true := by
  refine ⟨rfl, rfl⟩

theorem witness_StepKeepsInv : addAt1000.Inv ∧ ∃ t, step addAt1000 = .next t := by
  refine ⟨?_, _, rfl⟩
  constructor <;> first | decide | rfl

theorem witness_MemoryLaws :
    let m : Memory := [(0x2000, 0xAB#8), (0xFFFFFFFF, 0x01#8)]
    m.wf = true ∧ (0xFFFFFFFF : Nat) < 2 ^ 32 ∧ ∀ a, m.read a = m.read a := by
  refine ⟨by decide, by decide, fun _ => rfl⟩

/-- A misaligned address, one whose word goes around the end of the address space, ROM, and the ends of the areas. -/
theorem witness_LoadAfterStore :
    let p : Product := { nmiInputs := [], iromSize := 0x20000, iramSize := 0xF000, extMem := [] }
    let s : State := { addAt1000 with product := p }
    (addAt1000.mem.wf = true ∧ ∀ k, k < 4 → addAt1000.inRam (0x2001#32 + BitVec.ofNat 32 k) = true) ∧
    (∀ k, k < 4 → addAt1000.inRam (0xFFFFFFFE#32 + BitVec.ofNat 32 k) = true) ∧
    (s.inRam 0x1FFFF#32 = false ∧ s.inHostArea 0x1FFFF#32 = false ∧ s.inRam 0x20000#32 = false) ∧
    s.hostAreas = [] ∧ (0x1FFFF#32).toNat < p.iromSize ∧ (0x03FF0000#32).toNat + p.iramSize = 0x03FFF000 := by
  decide

theorem witness_ZeroRegister : (31 : RegNum) ≠ 0 := by decide

theorem witness_EveryInstructionCompletes :
    ¬notGuaranteed (.mulReg 6 7 7) ∧ ¬notGuaranteed (.muluReg 0 7 0) ∧ ¬notGuaranteed (.ldsr 6 20) ∧
    ¬notGuaranteed (.stsr 21 7) ∧ ¬notGuaranteed .nop := by
  simp [notGuaranteed]

/-- The boundaries of the reserved ranges, the two prohibited numbers, and a register combination. -/
theorem witness_NotGuaranteedRefused :
    ([6#5, 15#5, 22#5, 31#5].all fun n => decide ((6 ≤ n.toNat ∧ n.toNat ≤ 15) ∨ 22 ≤ n.toNat)) = true ∧
    ((4#5).toNat = 4 ∧ (21#5).toNat = 21) ∧
    ((8 : RegNum) = 8 ∧ (8 : RegNum) ≠ 7 ∧ (8 : RegNum) ≠ 0 ∧ (8 : RegNum) ≠ 0) := by
  decide

theorem witness_FlagWriters :
    addAt1000.psw &&& 0xFFFFFF00#32 = 0#32 ∧ ∃ t, exec (.addReg 6 7) addAt1000 = .next t := by
  refine ⟨rfl, _, rfl⟩

theorem witness_SystemRegisterWriters : ∃ t, exec (.trap 3) addAt1000 = .next t := ⟨_, rfl⟩

/-- LDSR r0, 5 with SAT = 1 (95_test_vectors.md SA11). -/
theorem witness_SatIsCumulative :
    let s := start 0x1000 [] [(.psw, 0x30)] []
    ∃ t, exec (.ldsr 0 5) s = .next t ∧ s.flag .sat = true ∧ t.flag .sat = false := by
  refine ⟨_, rfl, rfl, ?_⟩
  decide

theorem witness_MemoryWriters : (∃ t, exec (.ldW 0 6 7) addAt1000 = .next t) ∧ ¬storesToMemory (.ldW 0 6 7) := by
  refine ⟨⟨_, rfl⟩, ?_⟩
  simp [storesToMemory]

theorem witness_EnvironmentKept : (∃ t, exec (.addReg 6 7) addAt1000 = .next t) ∧ Instr.addReg 6 7 ≠ .halt := by
  refine ⟨⟨_, rfl⟩, ?_⟩
  simp

theorem witness_StoreForms : addAt1000.mem.wf = true := by decide

theorem witness_BitForms : addAt1000.mem.wf = true := by decide

theorem witness_PrepareForms : addAt1000.mem.wf = true := by decide

/-- reg2 = reg3, all three equal, and r0 twice. -/
theorem witness_MultiplyForms :
    [((6 : RegNum), (7 : RegNum), (7 : RegNum)), (6, 6, 6), (0, 7, 0)].all
      (fun r => !decide (r.1 = r.2.2 ∧ r.1 ≠ r.2.1 ∧ r.1 ≠ 0 ∧ r.2.2 ≠ 0)) = true := by
  decide

theorem witness_CompareForms : ∃ t, exec (.cmpReg 6 7) addAt1000 = .next t := ⟨_, rfl⟩

/-- A divisor other than 0, the overflow, and the low half-word of the divisor -1 in a register that is not -1. -/
theorem witness_SignedDivision :
    (let s := start 0x1000 [(6, 0xFFFFFFFE), (7, 0x80000000)] [] [];
      (s.reg 6).toInt ≠ 0 ∧ ¬((s.reg 7).toInt = -2 ^ 31 ∧ (s.reg 6).toInt = -1) ∧
        ((s.reg 6).extractLsb' 0 16).toInt ≠ 0 ∧
        ¬((s.reg 7).toInt = -2 ^ 31 ∧ ((s.reg 6).extractLsb' 0 16).toInt = -1)) ∧
    (let s := start 0x1000 [(6, 0xFFFFFFFF), (7, 0x80000000)] [] [];
      (s.reg 7).toInt = -2 ^ 31 ∧ (s.reg 6).toInt = -1) ∧
    (let s := start 0x1000 [(6, 0x0000FFFF), (7, 0x80000000)] [] [];
      (s.reg 7).toInt = -2 ^ 31 ∧ ((s.reg 6).extractLsb' 0 16).toInt = -1) := by
  decide

theorem witness_UnsignedDivision : (addAt1000.reg 6).toNat ≠ 0 ∧ ((addAt1000.reg 6).extractLsb' 0 16).toNat ≠ 0 := by
  decide

/-- r0 as the divisor, and a register whose low half-word is 0 (95_test_vectors.md AR43). -/
theorem witness_DivisionByZero :
    addAt1000.reg 0 = 0#32 ∧ ((start 0x1000 [(6, 0xFFFF0000)] [] []).reg 6).extractLsb' 0 16 = 0#16 := by
  decide

theorem witness_SystemRegisterTransfers :
    ((20 : BitVec 5), SysReg.ctbp, 0x03FFFFFE#32) ∈ sysRegTable ∧
    ((18 : BitVec 5), SysReg.dbpc, 0x03FFFFFF#32) ∈ sysRegTable ∧ ((5 : BitVec 5), SysReg.psw, 0xFF#32) ∈ sysRegTable := by
  decide

/-- A misaligned sp, the whole list and the largest immediate. -/
theorem witness_DisposeUndoesPrepare :
    let s := start 0x1000 [(3, 0x8002), (20, 0x14), (31, 0x1F)] [] []
    s.mem.wf = true ∧ (∀ k, k < 12 → ∀ j, j < 4 → s.inRam (pushAddress (s.reg 3#5) k j) = true) ∧
      ∃ t u, exec (.prepare 0xFFF 31) s = .next t ∧ exec (.dispose 31 0xFFF) t = .next u := by
  refine ⟨by decide, by decide, _, _, rfl, rfl⟩

end Sys2Proof.Tests
end

/-! The condition function of 10_state.md R52: the lower eight codes from the table, the upper eight as their negations. -/

namespace Sys2Proof.Machine

/-- The model's exclusive or of S and OV is their inequality. -/
theorem cond_lt (s : State) : s.cond .lt = (s.flag .s != s.flag .ov) := rfl

theorem cond_le (s : State) : s.cond .le = ((s.flag .s != s.flag .ov) || s.flag .z) := rfl

/-- The remark below the table of R52: bit 3 of a code negates the condition, but for the pair 0101 (always) and
1101 (SAT = 1). -/
theorem cond_ofCode_add_eight (s : State) (code : BitVec 4) (hlow : code < 8#4) (hnotT : code ≠ 0b0101#4) :
    s.cond (Cond.ofCode (code + 8#4)) = !s.cond (Cond.ofCode code) := by
  have hcodes : code = 0 ∨ code = 1 ∨ code = 2 ∨ code = 3 ∨ code = 4 ∨ code = 6 ∨ code = 7 := by
    bv_omega
  obtain rfl | rfl | rfl | rfl | rfl | rfl | rfl := hcodes <;> rfl

/-- Settles O24: the codes 0000 to 0111 (and 1101) by the definition, the others by negation. -/
theorem conditionTable : Obligations.ConditionTable := by
  unfold Obligations.ConditionTable
  intro s
  refine ⟨rfl, rfl, rfl, rfl, rfl, rfl, cond_lt s, cond_le s, ?nv, ?nc, ?nz, ?h, ?p, rfl, ?ge, ?gt⟩
  case nv => exact cond_ofCode_add_eight s 0b0000 (by decide) (by decide)
  case nc => exact cond_ofCode_add_eight s 0b0001 (by decide) (by decide)
  case nz => exact cond_ofCode_add_eight s 0b0010 (by decide) (by decide)
  case h => exact cond_ofCode_add_eight s 0b0011 (by decide) (by decide)
  case p => exact cond_ofCode_add_eight s 0b0100 (by decide) (by decide)
  case ge => exact cond_ofCode_add_eight s 0b0110 (by decide) (by decide)
  case gt => exact cond_ofCode_add_eight s 0b0111 (by decide) (by decide)

end Sys2Proof.Machine

section
/-! Which words the decoder reads as the illegal instruction code (30_encoding.md R170), and its entry of the exception
trap (60_exceptions.md R463). -/

namespace Sys2Proof

/-- The instruction is an illegal instruction code. -/
def Instr.isIllegal : Instr → Bool
  | .illegal0111 _ _ _ _ | .illegal1xxx _ _ _ _ _ => true
  | _ => false

theorem isIllegal_iff (i : Instr) :
    i.isIllegal = true ↔ (∃ a b c d, i = .illegal0111 a b c d) ∨ ∃ a b c d e, i = .illegal1xxx a b c d e := by
  cases i <;> simp [Instr.isIllegal]

/-- The answer of a decoder is an illegal instruction code. -/
def givesIllegal : Except UndefinedClass Instr → Bool
  | .ok i => i.isIllegal
  | .error _ => false

@[simp] theorem givesIllegal_ok (i : Instr) : givesIllegal (.ok i) = i.isIllegal := rfl

@[simp] theorem givesIllegal_error (c : UndefinedClass) : givesIllegal (.error c) = false := rfl

@[simp] theorem givesIllegal_withFixedBits (asPrinted : Bool) (i : Instr) :
    givesIllegal (withFixedBits asPrinted i) = (asPrinted && i.isIllegal) := by
  cases asPrinted <;> rfl

theorem givesIllegal_iff (d : Except UndefinedClass Instr) :
    givesIllegal d = true ↔
      (∃ a b c e, d = .ok (.illegal0111 a b c e)) ∨ ∃ a b c e f, d = .ok (.illegal1xxx a b c e f) := by
  cases d with
  | ok i => simpa using isIllegal_iff i
  | error c => simp

/-! ### The parts of the decoder that hold no illegal instruction code -/

theorem decode16Opcode_not_illegal (h0 : Half) : givesIllegal (decode16Opcode h0) = false := by
  unfold decode16Opcode
  dsimp only
  repeat' split
  all_goals rfl

theorem decode16_not_illegal (h0 : Half) : givesIllegal (decode16 h0) = false := by
  unfold decode16
  dsimp only
  repeat' split
  case h_7.isFalse => exact decode16Opcode_not_illegal h0
  all_goals rfl

theorem decodePrepare_not_illegal (h0 h1 h2 h3 : Half) : givesIllegal (decodePrepare h0 h1 h2 h3) = false := by
  unfold decodePrepare
  dsimp only
  split <;> rfl

theorem decodeExtended_not_illegal (h0 h1 : Half) : givesIllegal (decodeExtended h0 h1) = false := by
  unfold decodeExtended
  dsimp only
  repeat' split
  all_goals simp [Instr.isIllegal]

theorem decodeIllegal_isIllegal (h0 h1 : Half) : (decodeIllegal h0 h1).isIllegal = true := by
  unfold decodeIllegal
  split <;> rfl

theorem decodeIllegal_length (h0 h1 : Half) : (decodeIllegal h0 h1).length = 4 := by
  unfold decodeIllegal
  split <;> rfl

/-! ### The opcode 111111 -/

/-- The opcode 111111 is none of those that the decoder tests before. -/
theorem long_of_opcode {h0 : Half} (hop : bits10to5 h0 = 0b111111#6) :
    h0.extractLsb' 9 2 = 3#2 ∧ bits10to6 h0 = 0b11111#5 := by
  simp only [bits10to5, bits10to6, BitVec.toNat_eq, BitVec.extractLsb'_toNat] at *
  constructor <;> bv_omega

/-- The opcodes from 110000 up are the arms 110000 to 111011 of `decode32`, 11110x before them, 111110, and 111111. -/
theorem opcode_of_untested {h0 : Half} (hlong : h0.extractLsb' 9 2 = 3#2) (hjump : bits10to6 h0 ≠ 0b11110#5)
    (hrest : (bits10to5 h0).toNat < 48 ∨ 59 < (bits10to5 h0).toNat) (hbit : (bits10to5 h0).toNat ≠ 62) :
    bits10to5 h0 = 0b111111#6 := by
  simp only [bits10to5, bits10to6, BitVec.toNat_eq, BitVec.extractLsb'_toNat, ne_eq] at *
  bv_omega

/-- The words of opcode 111111: LD.HU, the illegal instruction code and the extended map (R168 to R170). -/
theorem decodeHalves_of_opcode {h0 : Half} (hop : bits10to5 h0 = 0b111111#6) (h1 h2 h3 : Half) :
    decodeHalves h0 h1 h2 h3 =
      if bit0 h1 = 1#1 then
        if bits15to11 h0 = 0#5 then .error .ldHuR0 else .ok (.ldHu (bits15to1 h1 ++ 0#1) (bits4to0 h0) (bits15to11 h0))
      else if 7 ≤ (bits10to7 h1).toNat then .ok (decodeIllegal h0 h1)
      else decodeExtended h0 h1 := by
  obtain ⟨hlong, h5⟩ := long_of_opcode hop
  simp [decodeHalves, decode32, hlong, h5, hop]

theorem decode32_not_illegal {h0 : Half} (hlong : h0.extractLsb' 9 2 = 3#2) (hop : bits10to5 h0 ≠ 0b111111#6)
    (h1 h2 h3 : Half) : givesIllegal (decode32 h0 h1 h2 h3) = false := by
  unfold decode32
  dsimp only
  split
  case isTrue =>
    repeat' split
    case isFalse.isTrue => exact decodePrepare_not_illegal h0 h1 h2 h3
    all_goals rfl
  case isFalse hjump =>
    split
    case isTrue => split <;> rfl
    case isFalse =>
      split
      case h_14 =>
        simp only [imp_false] at *
        exact absurd (opcode_of_untested hlong hjump (by omega) (by omega)) hop
      all_goals
        repeat' split
        all_goals rfl

/-- The half-words of an illegal instruction code (R170): bits 10..5, bit 16 and bits 26..23 of the instruction. -/
def isIllegalWord (h0 h1 : Half) : Prop :=
  h0.extractLsb' 5 6 = 0b111111#6 ∧ h1.getLsbD 0 = false ∧ 7 ≤ (h1.extractLsb' 7 4).toNat

theorem bit0_eq_one_iff (h : Half) : bit0 h = 1#1 ↔ h.getLsbD 0 = true := by
  simp [bit0, BitVec.toNat_eq, BitVec.extractLsb'_toNat, BitVec.getLsbD, Nat.testBit_zero]

theorem decodeHalves_of_isIllegalWord {h0 h1 : Half} (h : isIllegalWord h0 h1) (h2 h3 : Half) :
    decodeHalves h0 h1 h2 h3 = .ok (decodeIllegal h0 h1) := by
  obtain ⟨hop, hclear, hrange⟩ := h
  have hbit16 : ¬ bit0 h1 = 1#1 := by rw [bit0_eq_one_iff, hclear]; exact Bool.false_ne_true
  rw [decodeHalves_of_opcode hop, if_neg hbit16]
  exact if_pos hrange

theorem givesIllegal_decodeHalves (h0 h1 h2 h3 : Half) :
    givesIllegal (decodeHalves h0 h1 h2 h3) = true ↔ isIllegalWord h0 h1 := by
  constructor
  case mpr =>
    intro h
    rw [decodeHalves_of_isIllegalWord h, givesIllegal_ok, decodeIllegal_isIllegal]
  case mp =>
    intro h
    by_cases hop : bits10to5 h0 = 0b111111#6
    · rw [decodeHalves_of_opcode hop] at h
      split at h
      case isTrue => split at h <;> exact absurd h Bool.false_ne_true
      case isFalse hbit16 =>
        split at h
        case isTrue hrange => exact ⟨hop, by simpa [bit0_eq_one_iff] using hbit16, hrange⟩
        case isFalse => simp [decodeExtended_not_illegal] at h
    · unfold decodeHalves at h
      split at h
      case isTrue hlong => simp [decode32_not_illegal hlong hop] at h
      case isFalse => simp [decode16_not_illegal] at h

namespace Machine

theorem exec_decodeIllegal (h0 h1 : Half) (s : State) :
    exec (decodeIllegal h0 h1) s = .next (s.raise .exceptionTrap (s.pcPlus 4)) := by
  unfold decodeIllegal
  split <;> rfl

/-- A program address loses no bit in DBPC. -/
theorem pcPlus_and_storedBits (s : State) (n : Nat) : s.pcPlus n &&& SysReg.dbpc.storedBits = s.nextPc n := by
  simp [State.pcPlus, reducePc, State.nextPc, SysReg.storedBits, BitVec.and_assoc]

/-- The entry of the exception trap (60_exceptions.md R463), for a restored PC n bytes on. -/
theorem enters_exceptionTrap (s : State) (n : Nat) :
    Enters s (s.raise .exceptionTrap (s.pcPlus n)) .dbpc .dbpsw (s.nextPc n)
      [(.np, true), (.ep, true), (.id, true)] 0x00000060#32 [.dir] := by
  refine ⟨?dbpc, ?dbpsw, ⟨fun b => ?flag, ?pswHigh⟩, ?pc, fun r hr => ?sys, fun r => ?reg, fun a => ?mem⟩
  case dbpc => simp [State.raise, sysReg_setSysReg, sysReg_setFlag, pcPlus_and_storedBits]
  case dbpsw => simp [State.raise, sysReg_setSysReg, sysReg_setFlag, SysReg.storedBits]
  case flag => cases b <;> simp [State.raise, flag_setSysReg, flag_setFlag, State.flagAfter]
  case pswHigh => simp [State.raise, psw_setSysReg]
  case pc => rfl
  case sys =>
    simp only [List.mem_cons, List.not_mem_nil, or_false, not_or] at hr
    obtain ⟨hdbpc, hdbpsw, hpsw, hdir⟩ := hr
    simp [State.raise, sysReg_setSysReg, sysReg_setFlag, hdbpc, hdbpsw, hpsw, hdir]
  case reg => simp [State.raise, State.regAfter]
  case mem => simp [State.raise]

theorem dir_raise_exceptionTrap (s : State) (rpc : Word) : (s.raise .exceptionTrap rpc).dir = 1#32 := rfl

/-- Settles O5: every path of the decoder but that of opcode 111111 with bit 16 = 0 answers another instruction or none,
and both illegal forms enter the exception trap. -/
theorem illegalInstructionClass : Obligations.IllegalInstructionClass := by
  unfold Obligations.IllegalInstructionClass
  intro h0 h1 h2 h3
  refine ⟨?words, fun h => ⟨decodeIllegal h0 h1, decodeHalves_of_isIllegalWord h h2 h3, decodeIllegal_length h0 h1,
    fun s => ⟨_, exec_decodeIllegal h0 h1 s, enters_exceptionTrap s 4, dir_raise_exceptionTrap s _,
      envKept_raise s .exceptionTrap _⟩⟩⟩
  case words => exact (givesIllegal_decodeHalves h0 h1 h2 h3).symm.trans (givesIllegal_iff _)

end Machine

end Sys2Proof
end

section
/-! The bitwise operations of 44_logical.md, each with the flags of logic_flags (R301). TST (R309) is an AND whose result
is lost in r0 (10_state.md R31). -/

namespace Sys2Proof.Machine

theorem logicWrites_eq (res : Word) :
    logicWrites res = [(.ov, false), (.s, res.msb), (.z, decide (res = 0#32))] := by
  rw [BitVec.msb_eq_getLsbD_last]; rfl

theorem completes_bitwise_logicWrites {i : Instr} {s : State} {dest : RegNum} {res : Word} {len : Nat}
    (h : exec i s = s.bitwise dest res len) : Completes i s [(dest, res)] (logicWrites res) (s.nextPc len) :=
  logicWrites_eq res ▸ completes_bitwise h

theorem regAfter_write_zero (s : State) (v : Word) (r : RegNum) : s.regAfter [(0#5, v)] r = s.regAfter [] r := by
  by_cases hr : r = 0#5 <;> simp [State.regAfter, hr]

/-- A write to r0 is no register write. -/
theorem completes_of_write_zero {i : Instr} {s : State} {v : Word} {flags : List (PswBit × Bool)} {pc : Word}
    (h : Completes i s [(0#5, v)] flags pc) : Completes i s [] flags pc := by
  obtain ⟨t, hexec, hregs, hrest⟩ := h
  exact ⟨t, hexec, fun r => (hregs r).trans (regAfter_write_zero s v r), hrest⟩

theorem exec_tst_eq_bitwise_zero (s : State) (reg1 reg2 : RegNum) :
    exec (.tst reg1 reg2) s = s.bitwise 0#5 (s.reg reg2 &&& s.reg reg1) 2 := rfl

/-- Settles O45: each form ends in `State.bitwise` by its definition, TST with the destination r0. -/
theorem bitwiseForms : Obligations.BitwiseForms := by
  unfold Obligations.BitwiseForms
  intro s reg1 reg2 imm16
  refine ⟨?and, ?andi, ?or, ?ori, ?xor, ?xori, ?not, ?tst⟩
  case tst => exact completes_of_write_zero (completes_bitwise_logicWrites (exec_tst_eq_bitwise_zero s reg1 reg2))
  all_goals exact completes_bitwise_logicWrites rfl

end Sys2Proof.Machine
end

section
/-! The entry sequences of the events (60_exceptions.md R460 to R464): one rule for each operation that
`State.raise` composes, saying how it extends an entry made so far. -/

namespace Sys2Proof.Machine

/-! ### Entries, operation by operation -/

section EntryRules

variable {s t : State} {pcReg pswReg : SysReg} {rpc pc : Word} {flags : List (PswBit × Bool)} {others : List SysReg}

/-- The restored PC and PSW saved to a pair of registers, with nothing written yet. -/
theorem enters_saved (s : State) (hpair : pcReg ≠ pswReg) (hpc : pcReg ≠ .psw) (hpsw : pswReg ≠ .psw)
    (hrpc : rpc &&& pcReg.storedBits = rpc) (hstored : pswReg.storedBits = 0x000000FF#32) :
    Enters s ((s.setSysReg pcReg rpc).setSysReg pswReg s.psw) pcReg pswReg rpc [] s.pc [] := by
  refine ⟨?pcReg, ?pswReg, ⟨fun b => ?flag, ?pswHigh⟩, ?pc, fun r hr => ?sys, fun r => ?reg, fun a => ?mem⟩
  case pcReg => simp [sysReg_setSysReg, hpair, hrpc]
  case pswReg => simp [sysReg_setSysReg, hstored]
  case flag => simp [flag_setSysReg, hpc, hpsw, State.flagAfter]
  case pswHigh => simp [psw_setSysReg, hpc, hpsw]
  case pc => simp
  case sys =>
    simp only [List.mem_cons, List.not_mem_nil, or_false, not_or] at hr
    obtain ⟨hrpcReg, hrpswReg, -⟩ := hr
    simp [sysReg_setSysReg, hrpcReg, hrpswReg]
  case reg => simp [State.regAfter]
  case mem => simp

theorem enters_setFlag (h : Enters s t pcReg pswReg rpc flags pc others) (hpc : pcReg ≠ .psw) (hpsw : pswReg ≠ .psw)
    (b : PswBit) (v : Bool) : Enters s (t.setFlag b v) pcReg pswReg rpc ((b, v) :: flags) pc others := by
  obtain ⟨hpcReg, hpswReg, ⟨hflags, hhigh⟩, hpcIs, hsys, hregs, hmem⟩ := h
  refine ⟨?_, ?_, ⟨fun c => ?flag, ?_⟩, hpcIs, fun r hr => ?sys, fun r => ?_, hmem⟩
  case flag => rw [flag_setFlag, State.flagAfter, hflags]
  case sys =>
    have hrpsw : r ≠ .psw := fun hr' => hr (by simp [hr'])
    rw [sysReg_setFlag _ _ _ _ hrpsw, hsys r hr]
  · rw [sysReg_setFlag _ _ _ _ hpc, hpcReg]
  · rw [sysReg_setFlag _ _ _ _ hpsw, hpswReg]
  · rw [pswHigh_setFlag, hhigh]
  · exact (reg_of_gr (by simp) r).trans (hregs r)

/-- A write to a system register outside the saved pair and PSW adds that register to those an entry changes. -/
theorem enters_setSysReg (h : Enters s t pcReg pswReg rpc flags pc others) {q : SysReg} (hpc : pcReg ≠ q)
    (hpsw : pswReg ≠ q) (hq : q ≠ .psw) (v : Word) :
    Enters s (t.setSysReg q v) pcReg pswReg rpc flags pc (q :: others) := by
  obtain ⟨hpcReg, hpswReg, ⟨hflags, hhigh⟩, hpcIs, hsys, hregs, hmem⟩ := h
  refine ⟨?_, ?_, ⟨fun c => ?flag, ?_⟩, ?_, fun r hr => ?sys, fun r => ?_, fun a => ?_⟩
  case flag => rw [flag_setSysReg _ _ _ hq, hflags]
  case sys =>
    simp only [List.mem_cons, not_or] at hr
    obtain ⟨hrpc, hrpsw, hpswNe, hrq, hothers⟩ := hr
    rw [sysReg_setSysReg, if_neg hrq, hsys r (by simp [*])]
  · rw [sysReg_setSysReg, if_neg hpc, hpcReg]
  · rw [sysReg_setSysReg, if_neg hpsw, hpswReg]
  · rw [psw_setSysReg, if_neg hq, hhigh]
  · simpa using hpcIs
  · simpa using hregs r
  · simpa using hmem a

theorem enters_setPc (h : Enters s t pcReg pswReg rpc flags pc others) (a : Word) :
    Enters s (t.setPc a) pcReg pswReg rpc flags (reducePc a) others := by
  obtain ⟨hpcReg, hpswReg, ⟨hflags, hhigh⟩, -, hsys, hregs, hmem⟩ := h
  exact ⟨(sysReg_setPc ..).trans hpcReg, (sysReg_setPc ..).trans hpswReg,
    ⟨fun b => (flag_setPc ..).trans (hflags b), hhigh⟩, rfl, fun r hr => (sysReg_setPc ..).trans (hsys r hr),
    fun r => (reg_setPc ..).trans (hregs r), hmem⟩

/-- The flag writes of an entry count by the flags they leave, not by their order. -/
theorem enters_of_flagAfter_eq (h : Enters s t pcReg pswReg rpc flags pc others) {flags' : List (PswBit × Bool)}
    (heq : ∀ b, s.flagAfter flags b = s.flagAfter flags' b) : Enters s t pcReg pswReg rpc flags' pc others := by
  obtain ⟨hpcReg, hpswReg, ⟨hflags, hhigh⟩, hrest⟩ := h
  exact ⟨hpcReg, hpswReg, ⟨fun b => (hflags b).trans (heq b), hhigh⟩, hrest⟩

end EntryRules

/-! ### The restored PC and the codes -/

/-- A value that PC can hold loses no bit in the registers that save it. -/
theorem and_storedBits_of_isPc {v : Word} (h : isPc v) : v &&& 0x03FFFFFF#32 = v := by
  have hmask : 0x03FFFFFF#32 ||| 0xFC000001#32 = BitVec.allOnes 32 := by decide
  calc v &&& 0x03FFFFFF#32
      = (v &&& 0x03FFFFFF#32) ||| (v &&& 0xFC000001#32) := by rw [h, BitVec.or_zero]
    _ = v &&& (0x03FFFFFF#32 ||| 0xFC000001#32) := BitVec.and_or_distrib_left.symm
    _ = v := by rw [hmask, BitVec.and_allOnes]

/-- The exception codes of the non-maskable interrupts are program addresses. -/
theorem nmi_handler_address (input : NmiInput) :
    reducePc ((BitVec.ofNat 16 (0x0010 * (input.number + 1))).setWidth 32) =
      BitVec.ofNat 32 (16 * (input.number + 1)) := by
  cases input <;> rfl

theorem number_of_mem_numbering {input : NmiInput} {k : Nat}
    (h : (input, k) ∈ [(NmiInput.nmi0, 0), (.nmi1, 1), (.nmi2, 2)]) : input.number = k := by
  simp only [List.mem_cons, List.not_mem_nil, or_false, Prod.mk.injEq] at h
  obtain ⟨rfl, rfl⟩ | ⟨rfl, rfl⟩ | ⟨rfl, rfl⟩ := h <;> rfl

theorem softwareException_code_eq_ofNat (vector : BitVec 5) :
    0x0040#16 + vector.setWidth 16 = BitVec.ofNat 16 (0x40 + vector.toNat) := by
  rw [BitVec.ofNat_add, BitVec.ofNat_toNat]

/-- Both addresses of the software exception are program addresses. -/
theorem reducePc_softwareException_handler (c : Prop) [Decidable c] :
    reducePc (if c then 0x00000040#32 else 0x00000050#32) = if c then 0x00000040#32 else 0x00000050#32 := by
  split <;> rfl

/-! ### What each entry leaves in ECR -/

theorem ecr_setEicc (s : State) (code : Half) : (s.setEicc code).ecr = s.ecr.extractLsb' 16 16 ++ code :=
  BitVec.and_allOnes

theorem ecr_setFecc (s : State) (code : Half) : (s.setFecc code).ecr = code ++ s.ecr.extractLsb' 0 16 :=
  BitVec.and_allOnes

theorem ecr_raise_maskable (s : State) (code : Half) (rpc : Word) :
    (s.raise (.maskable code) rpc).ecr = s.ecr.extractLsb' 16 16 ++ code :=
  ecr_setEicc ((s.setSysReg .eipc rpc).setSysReg .eipsw s.psw) code

theorem ecr_raise_nmi (s : State) (input : NmiInput) (rpc : Word) :
    (s.raise (.nmi input) rpc).ecr = BitVec.ofNat 16 (0x0010 * (input.number + 1)) ++ s.ecr.extractLsb' 0 16 :=
  ecr_setFecc ((s.setSysReg .fepc rpc).setSysReg .fepsw s.psw) _

theorem ecr_raise_softwareException (s : State) (vector : BitVec 5) (rpc : Word) :
    (s.raise (.softwareException vector) rpc).ecr =
      s.ecr.extractLsb' 16 16 ++ BitVec.ofNat 16 (0x40 + vector.toNat) :=
  softwareException_code_eq_ofNat vector ▸ ecr_setEicc ((s.setSysReg .eipc rpc).setSysReg .eipsw s.psw) _

/-! ### The entries -/

/-- The save to EIPC and EIPSW and the code to EICC, with which R460 and R462 begin. -/
theorem enters_saved_setEicc (s : State) (code : Half) {rpc : Word} (h : isPc rpc) :
    Enters s (((s.setSysReg .eipc rpc).setSysReg .eipsw s.psw).setEicc code) .eipc .eipsw rpc [] s.pc [.ecr] :=
  have hsaved := enters_saved (pcReg := .eipc) (pswReg := .eipsw) s (by decide) (by decide) (by decide)
    (and_storedBits_of_isPc h) rfl
  enters_setSysReg hsaved (by decide) (by decide) (by decide) _

/-- The save to FEPC and FEPSW and the code to FECC, with which R461 begins. -/
theorem enters_saved_setFecc (s : State) (code : Half) {rpc : Word} (h : isPc rpc) :
    Enters s (((s.setSysReg .fepc rpc).setSysReg .fepsw s.psw).setFecc code) .fepc .fepsw rpc [] s.pc [.ecr] :=
  have hsaved := enters_saved (pcReg := .fepc) (pswReg := .fepsw) s (by decide) (by decide) (by decide)
    (and_storedBits_of_isPc h) rfl
  enters_setSysReg hsaved (by decide) (by decide) (by decide) _

/-- The entry of a maskable interrupt (60_exceptions.md R460). -/
theorem enters_maskable (s : State) (code : Half) {rpc : Word} (h : isPc rpc) :
    Enters s (s.raise (.maskable code) rpc) .eipc .eipsw rpc [(.id, true), (.ep, false)]
      (code.setWidth 32 &&& 0x03FFFFFE#32) [.ecr] := by
  have hid := enters_setFlag (enters_saved_setEicc s code h) (by decide) (by decide) .id true
  have hep := enters_setFlag hid (by decide) (by decide) .ep false
  exact enters_of_flagAfter_eq (enters_setPc hep _) fun b => by cases b <;> rfl

/-- The entry of a non-maskable interrupt (60_exceptions.md R461). -/
theorem enters_nmi (s : State) (input : NmiInput) {rpc : Word} (h : isPc rpc) :
    Enters s (s.raise (.nmi input) rpc) .fepc .fepsw rpc [(.np, true), (.id, true), (.ep, false)]
      (BitVec.ofNat 32 (16 * (input.number + 1))) [.ecr] := by
  have hsaved := enters_saved_setFecc s (BitVec.ofNat 16 (0x0010 * (input.number + 1))) h
  have hnp := enters_setFlag hsaved (by decide) (by decide) .np true
  have hid := enters_setFlag hnp (by decide) (by decide) .id true
  have hep := enters_setFlag hid (by decide) (by decide) .ep false
  rw [← nmi_handler_address]
  exact enters_of_flagAfter_eq (enters_setPc hep _) fun b => by cases b <;> rfl

/-- The entry of the software exception (60_exceptions.md R462). -/
theorem enters_softwareException (s : State) (vector : BitVec 5) {rpc : Word} (h : isPc rpc) :
    Enters s (s.raise (.softwareException vector) rpc) .eipc .eipsw rpc [(.ep, true), (.id, true)]
      (if vector.toNat < 16 then 0x00000040#32 else 0x00000050#32) [.ecr] := by
  have hsaved := enters_saved_setEicc s (0x0040#16 + vector.setWidth 16) h
  have hep := enters_setFlag hsaved (by decide) (by decide) .ep true
  have hid := enters_setFlag hep (by decide) (by decide) .id true
  rw [← reducePc_softwareException_handler]
  exact enters_of_flagAfter_eq (enters_setPc hid _) fun b => by cases b <;> rfl

/-! ### The obligations -/

/-- Settles O11: the entries of R460 and R461, each with its half of ECR written. -/
theorem interruptEntrySequences : Obligations.InterruptEntrySequences := by
  unfold Obligations.InterruptEntrySequences
  intro s rpc hrpc
  refine ⟨fun code => ?maskable, fun input k hk => ?nmi⟩
  case maskable =>
    refine ⟨enters_maskable s code hrpc, ?eicc, ?fecc, (envKept_raise s (.maskable code) rpc).left⟩
    case eicc => rw [ecr_raise_maskable, BitVec.extractLsb'_append_eq_right]
    case fecc => rw [ecr_raise_maskable, BitVec.extractLsb'_append_eq_left]
  case nmi =>
    obtain rfl := number_of_mem_numbering hk
    refine ⟨enters_nmi s input hrpc, ?fecc, ?eicc, (envKept_raise s (.nmi input) rpc).left⟩
    case fecc => rw [ecr_raise_nmi, BitVec.extractLsb'_append_eq_left]
    case eicc => rw [ecr_raise_nmi, BitVec.extractLsb'_append_eq_right]

theorem exec_trap (s : State) (vector : BitVec 5) :
    exec (.trap vector) s = .next (s.raise (.softwareException vector) (s.nextPc 4)) := rfl

/-- Settles O52: TRAP is the entry of R462 for the address of the next instruction, a program address. -/
theorem trapEntry : Obligations.TrapEntry := by
  unfold Obligations.TrapEntry
  intro s vector
  refine ⟨_, exec_trap s vector, enters_softwareException s vector (isPc_reducePc _), ?eicc, ?fecc,
    envKept_raise s (.softwareException vector) _⟩
  case eicc => rw [ecr_raise_softwareException, BitVec.extractLsb'_append_eq_right]
  case fecc => rw [ecr_raise_softwareException, BitVec.extractLsb'_append_eq_left]

/-- The debug trap has the entry sequence of the exception trap (60_exceptions.md R464). -/
theorem raise_debugTrap (s : State) (rpc : Word) : s.raise .debugTrap rpc = s.raise .exceptionTrap rpc := rfl

theorem exec_dbtrap (s : State) : exec .dbtrap s = .next (s.raise .exceptionTrap (s.pcPlus 2)) :=
  raise_debugTrap s _ ▸ rfl

/-- An instruction that raises the exception trap n bytes on: the entry of R463 with its frame, ECR kept. -/
theorem exceptionTrap_entry {i : Instr} {s : State} {n : Nat}
    (h : exec i s = .next (s.raise .exceptionTrap (s.pcPlus n))) :
    ∃ t, exec i s = .next t ∧
      Enters s t .dbpc .dbpsw (s.nextPc n) [(.np, true), (.ep, true), (.id, true)] 0x00000060#32 [.dir] ∧
      t.dir = 1#32 ∧ EnvKept s t ∧ t.acceptPoint = s.acceptPoint :=
  ⟨_, h, enters_exceptionTrap s n, dir_raise_exceptionTrap s _, envKept_raise s .exceptionTrap _⟩

/-- Settles O53: DBTRAP and both illegal instruction codes raise the exception trap, 2 and 4 bytes on. -/
theorem debugEntries : Obligations.DebugEntries := by
  unfold Obligations.DebugEntries
  intro s
  refine ⟨?dbtrap, fun a b c d => ?illegal0111, fun a b c d e => ?illegal1xxx⟩
  case dbtrap => exact exceptionTrap_entry (exec_dbtrap s)
  case illegal0111 => exact exceptionTrap_entry rfl
  case illegal1xxx => exact exceptionTrap_entry rfl

end Sys2Proof.Machine
end

section
/-! Every step keeps the invariant `State.Inv` (10_state.md sections 1 to 3, 20_memory.md section 1): the operations
keep it (Laws/Invariant.lean), so each instruction, each accepted request and reset does. -/

namespace Sys2Proof.Machine

/-- A next state of this result has the invariant. -/
def KeepsInv (r : Result) : Prop := ∀ t, r = .next t → t.Inv

theorem keepsInv_next {u : State} (h : u.Inv) : KeepsInv (.next u) := by
  rintro t ⟨⟩
  exact h

theorem keepsInv_refused (r : Refusal) : KeepsInv (.refused r) := by
  rintro t ⟨⟩

theorem keepsInv_ite {c : Prop} [Decidable c] {r r' : Result} (h : KeepsInv r) (h' : KeepsInv r') :
    KeepsInv (if c then r else r') := by
  split <;> assumption

theorem inv_setProduct {s : State} (h : s.Inv) (reg2 reg3 : RegNum) (p : BitVec 64) : (s.setProduct reg2 reg3 p).Inv :=
  inv_setReg (inv_setReg h _ _) _ _

theorem inv_prepareFrame {s : State} (h : s.Inv) (list12 : RegList) (imm5 : BitVec 5) :
    (s.prepareFrame list12 imm5).Inv :=
  inv_setReg (inv_pushRegs h _ _) _ _

theorem inv_disposeFrame {s : State} (h : s.Inv) (imm5 : BitVec 5) (list12 : RegList) :
    (s.disposeFrame imm5 list12).Inv :=
  inv_setReg (inv_popRegs h _ _) _ _

/-- Settles O18: every fixed-0 field of the reset state is a literal, and its memory has no cell. -/
theorem resetInv : Obligations.ResetInv := by
  unfold Obligations.ResetInv
  constructor <;> rfl

/-- System reset keeps memory; every other field that the invariant names is the reset state's. -/
theorem inv_systemReset {s : State} (h : s.Inv) : s.systemReset.Inv := { resetInv with mem := h.mem }

theorem keepsInv_ldsr {s : State} (h : s.Inv) (reg2 : RegNum) (regID : BitVec 5) :
    KeepsInv (execLdsr reg2 regID s) := by
  unfold execLdsr
  split
  case h_1 => exact keepsInv_refused _
  case h_2 r _ =>
    refine keepsInv_ite (keepsInv_next ?_) (keepsInv_refused _)
    have hwritten := inv_advance (inv_setSysReg h r (s.reg reg2)) 4
    split
    case isTrue => exact inv_withoutSampling hwritten
    case isFalse => exact hwritten

theorem keepsInv_stsr {s : State} (h : s.Inv) (regID : BitVec 5) (reg2 : RegNum) :
    KeepsInv (execStsr regID reg2 s) := by
  unfold execStsr
  split
  case h_1 => exact keepsInv_refused _
  case h_2 => exact keepsInv_next (inv_advance (inv_setReg h _ _) _)

/-- Every instruction is a chain of operations that keep the invariant; the cases stand by the ends they share. -/
theorem keepsInv_exec {s : State} (h : s.Inv) (i : Instr) : KeepsInv (exec i s) := by
  cases i
  case ldsr => exact keepsInv_ldsr h _ _
  case stsr => exact keepsInv_stsr h _ _
  case nop => exact keepsInv_next (inv_advance h _)
  case movReg | movImm5 | movImm32 | movea | movhi | setf | sasf | cmovReg | cmovImm5 | mulhReg | mulhImm5 | mulhi |
      zxb | sxb | zxh | sxh | ldB | ldBu | ldH | ldHu | ldW | sldB | sldBu | sldH | sldHu | sldW =>
    exact keepsInv_next (inv_advance (inv_setReg h _ _) _)
  case addReg | addImm5 | addi | sub | subr | sarReg | sarImm5 | shlReg | shlImm5 | shrReg | shrImm5 |
      bsh | bsw | hsw =>
    exact keepsInv_next (inv_advance (inv_setFlags (inv_setReg h _ _) _) _)
  case cmpReg | cmpImm5 => exact keepsInv_next (inv_advance (inv_setFlags h _) _)
  case andReg | andi | orReg | ori | xorReg | xori | notReg =>
    exact keepsInv_next (inv_advance (inv_setLogicFlags (inv_setReg h _ _) _) _)
  case tst => exact keepsInv_next (inv_advance (inv_setLogicFlags h _) _)
  case div | divu | divhReg3 | divhu =>
    exact keepsInv_next (inv_advance (inv_setDivisionFlags (inv_setReg (inv_setReg h _ _) _ _) _) _)
  case divhReg => exact keepsInv_next (inv_advance (inv_setDivisionFlags (inv_setReg h _ _) _) _)
  case sataddReg | sataddImm5 | satsub | satsubi | satsubr =>
    exact keepsInv_next (inv_advance (inv_setSaturatedFlags (inv_setReg h _ _) _) _)
  case stB | sstB => exact keepsInv_next (inv_advance (inv_store1 h _ _) _)
  case stH | sstH => exact keepsInv_next (inv_advance (inv_store2 h _ _) _)
  case stW | sstW => exact keepsInv_next (inv_advance (inv_store4 h _ _) _)
  case set1Disp | set1Reg | clr1Disp | clr1Reg | not1Disp | not1Reg =>
    exact keepsInv_next (inv_advance (inv_store1 (inv_setFlag h _ _) _ _) _)
  case tst1Disp | tst1Reg => exact keepsInv_next (inv_advance (inv_setFlag h _ _) _)
  case mulReg | muluReg =>
    exact keepsInv_ite (keepsInv_refused _) (keepsInv_next (inv_advance (inv_setProduct h _ _ _) _))
  case mulImm9 | muluImm9 => exact keepsInv_next (inv_advance (inv_setProduct h _ _ _) _)
  case bcond =>
    refine keepsInv_next ?_
    split
    case isTrue => exact inv_setPc h _
    case isFalse => exact inv_advance h _
  case jmp | jr | switch => exact keepsInv_next (inv_setPc h _)
  case jarl => exact keepsInv_next (inv_setPc (inv_setReg h _ _) _)
  case callt => exact keepsInv_next (inv_setPc (inv_setSysReg (inv_setSysReg h _ _) _ _) _)
  case trap | dbtrap | illegal0111 | illegal1xxx => exact keepsInv_next (inv_raise h _ _)
  case ctret => exact keepsInv_next (inv_returnFrom h _ _)
  case dbret => exact keepsInv_next (inv_setSysReg (inv_returnFrom h _ _) _ _)
  case reti =>
    refine keepsInv_next ?_
    split <;> exact inv_returnFrom h _ _
  case di | ei => exact keepsInv_next (inv_withoutSampling (inv_advance (inv_setFlag h _ _) _))
  case halt => exact keepsInv_next (inv_enterHalt (inv_advance h _))
  case prepare => exact keepsInv_next (inv_advance (inv_prepareFrame h _ _) _)
  case prepareSp | prepareImm16 | prepareHi16 | prepareImm32 =>
    exact keepsInv_next (inv_advance (inv_setReg (inv_prepareFrame h _ _) _ _) _)
  case dispose => exact keepsInv_next (inv_advance (inv_disposeFrame h _ _) _)
  case disposeJump => exact keepsInv_next (inv_setPc (inv_disposeFrame h _ _) _)

/-- Settles O19: the four ways in which a step answers a next state (`step_cases`), each a chain of operations that keep
the invariant. -/
theorem stepKeepsInv : Obligations.StepKeepsInv := by
  unfold Obligations.StepKeepsInv
  intro s t h hstep
  have htaken := inv_takeInput h
  obtain ⟨-, rfl⟩ | ⟨-, -, rfl⟩ | ⟨-, -, e, -, rfl⟩ | ⟨-, -, -, i, -, hexec⟩ := step_cases hstep
  case inl => exact inv_systemReset htaken
  case inr.inl => exact htaken
  case inr.inr.inl => exact inv_accept (inv_wake htaken) e
  case inr.inr.inr => exact keepsInv_exec (inv_begin (inv_wake htaken)) i t hexec

end Sys2Proof.Machine
end

section
/-! The fields of the instruction formats (30_encoding.md R142, R151 to R163). As `simp` rules: a field and a format are
what they are defined as, fields and concatenations of bits; and a field of a concatenation, or of a field, is a field
of one part. So `simp` computes what the decoder reads in a half-word that the encoder wrote, and the reverse. -/

namespace Sys2Proof

/-! ### Fields of a concatenation

The widths of the model's half-words are the literal 16, where the library's laws have a sum of widths; `no_index` lets
`simp` use these laws all the same. -/

/-- A field above the low part lies in the high part. -/
@[simp] theorem extract_append_high {v w start len : Nat} (x : BitVec v) (y : BitVec w) (h : w ≤ start) :
    BitVec.extractLsb' start len (@HAppend.hAppend (BitVec v) (BitVec w) (no_index (BitVec (v + w))) _ x y) =
      x.extractLsb' (start - w) len :=
  BitVec.extractLsb'_append_eq_of_le h

/-- A field inside the low part. -/
@[simp] theorem extract_append_low {v w start len : Nat} (x : BitVec v) (y : BitVec w) (h : start + len ≤ w) :
    BitVec.extractLsb' start len (@HAppend.hAppend (BitVec v) (BitVec w) (no_index (BitVec (v + w))) _ x y) =
      y.extractLsb' start len :=
  BitVec.extractLsb'_append_eq_of_add_le h

/-- Two fields side by side are one field. -/
@[simp] theorem extract_append_extract {w start high len lenHigh : Nat} (x : BitVec w) (h : high = start + len) :
    @HAppend.hAppend (BitVec lenHigh) (BitVec len) (no_index (BitVec (lenHigh + len))) _
      (x.extractLsb' high lenHigh) (x.extractLsb' start len) = x.extractLsb' start (lenHigh + len) :=
  BitVec.extractLsb'_append_extractLsb'_eq_extractLsb' h

/-- A field of a field. -/
@[simp] theorem extract_extract {w start len start' len' : Nat} (x : BitVec w) (h : start' + len' ≤ len) :
    (x.extractLsb' start len).extractLsb' start' len' = x.extractLsb' (start + start') len' := by
  ext i hi
  rw [BitVec.getElem_extractLsb', BitVec.getLsbD_extractLsb', BitVec.getElem_extractLsb', Nat.add_assoc]
  have hlt : start' + i < len := by omega
  simp [hlt]

/-! ### The fields that the decoder reads -/

@[simp] theorem bits15to11_eq (h : Half) : bits15to11 h = h.extractLsb' 11 5 := rfl
@[simp] theorem bits10to5_eq (h : Half) : bits10to5 h = h.extractLsb' 5 6 := rfl
@[simp] theorem bits4to0_eq (h : Half) : bits4to0 h = h.extractLsb' 0 5 := rfl
@[simp] theorem bits10to6_eq (h : Half) : bits10to6 h = h.extractLsb' 6 5 := rfl
@[simp] theorem bits10to7_eq (h : Half) : bits10to7 h = h.extractLsb' 7 4 := rfl
@[simp] theorem bits4to1_eq (h : Half) : bits4to1 h = h.extractLsb' 1 4 := rfl
@[simp] theorem bits15to1_eq (h : Half) : bits15to1 h = h.extractLsb' 1 15 := rfl
@[simp] theorem bit0_eq (h : Half) : bit0 h = h.extractLsb' 0 1 := rfl

/-! ### The formats that the encoder writes -/

@[simp] theorem formatI_eq (reg2 : BitVec 5) (opcode : BitVec 6) (low : BitVec 5) :
    formatI reg2 opcode low = reg2 ++ opcode ++ low := rfl
@[simp] theorem formatXI_eq (reg3 : BitVec 5) (sub : BitVec 6) (low : BitVec 4) :
    formatXI reg3 sub low = reg3 ++ sub ++ low ++ 0#1 := rfl
@[simp] theorem formatIII_eq (high : BitVec 5) (low : BitVec 3) (code : BitVec 4) :
    formatIII high low code = high ++ 0b1011#4 ++ low ++ code := rfl
@[simp] theorem formatIVA_eq (reg2 : BitVec 5) (opcode : BitVec 4) (low : BitVec 7) :
    formatIVA reg2 opcode low = reg2 ++ opcode ++ low := rfl
@[simp] theorem formatIVB_eq (reg2 : BitVec 5) (opcode : BitVec 7) (disp : BitVec 4) :
    formatIVB reg2 opcode disp = reg2 ++ opcode ++ disp := rfl
@[simp] theorem formatV_eq (reg2 : BitVec 5) (opcode : BitVec 5) (low : BitVec 6) :
    formatV reg2 opcode low = reg2 ++ opcode ++ low := rfl
@[simp] theorem formatVIII_eq (sub : BitVec 2) (bit3 : BitVec 3) (reg1 : BitVec 5) :
    formatVIII sub bit3 reg1 = sub ++ bit3 ++ 0b111110#6 ++ reg1 := rfl
@[simp] theorem disp15Half_eq (disp : BitVec 15) (bit16 : BitVec 1) : disp15Half disp bit16 = disp ++ bit16 := rfl
@[simp] theorem formatXIII_eq (opcode imm5 : BitVec 5) (list12 : RegList) :
    formatXIII opcode imm5 list12 = formatV 0#5 opcode (imm5 ++ list12.extractLsb' 10 1) := rfl

/-! ### The register list and the condition -/

/-- The list field reads the list that was written. -/
@[simp] theorem regListOf_listHalf {h0 : Half} {list12 : RegList} (low : BitVec 5)
    (h : h0.extractLsb' 0 1 = list12.extractLsb' 10 1) : regListOf h0 (listHalf list12 low) = list12 := by
  simp [regListOf, listHalf, h]

/-- The list field that was read is written again. -/
@[simp] theorem listHalf_regListOf (h0 h1 : Half) : listHalf (regListOf h0 h1) (h1.extractLsb' 0 5) = h1 := by
  simp [listHalf, regListOf]

@[simp] theorem listHalf_low {start len : Nat} (list12 : RegList) (low : BitVec 5) (h : start + len ≤ 5) :
    (listHalf list12 low).extractLsb' start len = low.extractLsb' start len := by
  simp [listHalf, h]

@[simp] theorem regListOf_bit10 (h0 h1 : Half) : (regListOf h0 h1).extractLsb' 10 1 = h0.extractLsb' 0 1 := by
  simp [regListOf]

@[simp] theorem ofCode_code (cond : Cond) : Cond.ofCode cond.code = cond := by cases cond <;> rfl

@[simp] theorem code_ofCode (code : BitVec 4) : (Cond.ofCode code).code = code := by decide +revert

/-! ### Displacements with fixed low bits -/

theorem evenDisp_iff {n : Nat} (d : BitVec n) : evenDisp d = true ↔ d.extractLsb' 0 1 = 0#1 := by
  rw [evenDisp, BitVec.getLsbD_eq_extractLsb']
  generalize d.extractLsb' 0 1 = b
  decide +revert

theorem wordDisp_iff {n : Nat} (d : BitVec n) : wordDisp d = true ↔ d.extractLsb' 0 2 = 0#2 := by
  have hjoin : d.extractLsb' 1 1 ++ d.extractLsb' 0 1 = d.extractLsb' 0 2 := extract_append_extract d rfl
  rw [wordDisp, BitVec.getLsbD_eq_extractLsb', BitVec.getLsbD_eq_extractLsb', ← hjoin]
  generalize d.extractLsb' 1 1 = high
  generalize d.extractLsb' 0 1 = low
  decide +revert

/-- A field with its lowest bit appended again. -/
theorem append_low_bit {n : Nat} {d : BitVec (n + 1)} {b : BitVec 1} (h : d.extractLsb' 0 1 = b) :
    d.extractLsb' 1 n ++ b = d := by
  rw [← h]
  simp

theorem append_zero_of_word {n : Nat} {d : BitVec (n + 2)} (h : d.extractLsb' 0 2 = 0#2) :
    d.extractLsb' 2 n ++ 0#2 = d := by
  rw [← h]
  simp

theorem notR0_iff (r : RegNum) : notR0 r = true ↔ r ≠ 0#5 := decide_eq_true_iff

end Sys2Proof
end

section
/-! The decoder reads every well-formed instruction from its own words (30_encoding.md sections 3 to 5), family by
family of the opcode map. The fields of the written half-words are literals or operands, so the tests of the decoder
compute. -/

namespace Sys2Proof

theorem decodeHalves_short {h0 : Half} (h : h0.extractLsb' 9 2 ≠ 3#2) (h1 h2 h3 : Half) :
    decodeHalves h0 h1 h2 h3 = decode16 h0 :=
  if_neg h

theorem decodeHalves_long {h0 : Half} (h : h0.extractLsb' 9 2 = 3#2) (h1 h2 h3 : Half) :
    decodeHalves h0 h1 h2 h3 = decode32 h0 h1 h2 h3 :=
  if_pos h

/-- The second half-word of the illegal instruction code with bits 26..23 = 1xxx, these four bits as one field. -/
theorem illegal1xxx_half (bits31 : BitVec 5) (bits25 : BitVec 3) (bits22 : BitVec 6) :
    (bits31 ++ 1#1 ++ bits25 ++ bits22 ++ 0#1 : Half) = bits31 ++ (1#1 ++ bits25) ++ bits22 ++ 0#1 :=
  congrArg (fun high : BitVec 9 => high ++ bits22 ++ 0#1) BitVec.append_assoc

theorem illegal1xxx_range (bits25 : BitVec 3) : 7 ≤ (1#1 ++ bits25).toNat ∧ 1#1 ++ bits25 ≠ 7#4 := by decide +revert

/-- The sub-opcode of MUL and MULU imm9 ends with the uppermost bit of the immediate (R168). -/
theorem extract_mulImm9_sub (reg3 : BitVec 5) (high : BitVec 4) :
    (reg3 ++ 0b01001#5 ++ high : BitVec 14).extractLsb' 3 6 = 0b01001#5 ++ high.extractLsb' 3 1 := by
  have hhigh : high.extractLsb' 3 1 ++ high.extractLsb' 0 3 = high := by simp
  calc
    _ = (reg3 ++ 0b01001#5 ++ (high.extractLsb' 3 1 ++ high.extractLsb' 0 3) : BitVec 14).extractLsb' 3 6 := by
      rw [hhigh]
    _ = (reg3 ++ 0b01001#5 ++ high.extractLsb' 3 1 ++ high.extractLsb' 0 3 : BitVec 14).extractLsb' 3 6 := by
      exact congrArg (BitVec.extractLsb' 3 6) BitVec.append_assoc.symm
    _ = (reg3 ++ (0b01001#5 ++ high.extractLsb' 3 1) : BitVec 11).extractLsb' 0 6 := by
      rw [extract_append_high _ _ (by decide)]
      exact congrArg (BitVec.extractLsb' 0 6) BitVec.append_assoc
    _ = 0b01001#5 ++ high.extractLsb' 3 1 := by simp

theorem eq_zero_or_one (b : BitVec 1) : b = 0#1 ∨ b = 1#1 := by decide +revert

/-- The instructions of the opcode 111111: those of the extended map and the illegal instruction code (R168 to R170). -/
def Instr.isExtended : Instr → Bool
  | .setf _ _ | .ldsr _ _ | .stsr _ _ | .shrReg _ _ | .sarReg _ _ | .shlReg _ _ | .set1Reg _ _ | .not1Reg _ _ => true
  | .clr1Reg _ _ | .tst1Reg _ _ | .sasf _ _ | .trap _ | .halt | .reti | .ctret | .dbret | .di | .ei => true
  | .mulReg _ _ _ | .muluReg _ _ _ | .divhReg3 _ _ _ | .divhu _ _ _ | .div _ _ _ | .divu _ _ _ => true
  | .cmovReg _ _ _ _ | .mulImm9 _ _ _ | .muluImm9 _ _ _ | .cmovImm5 _ _ _ _ | .bsw _ _ | .bsh _ _ | .hsw _ _ => true
  | .illegal0111 _ _ _ _ | .illegal1xxx _ _ _ _ _ => true
  | _ => false

theorem decodeHalfList_encode_short {i : Instr} (hlen : i.length = 2) (h : i.wellFormed = true) :
    decodeHalfList (encode i) = .ok i := by
  unfold decodeHalfList
  cases i
  case movReg reg1 reg2 =>
    have hr0 : ¬(reg1 = 0#5 ∧ reg2 = 0#5) := by
      rintro ⟨rfl, rfl⟩
      exact absurd h (by decide)
    simp [encode, decodeHalves_short, decode16, decode16Opcode, hr0]
  -- formats I and II
  case nop | notReg | switch | divhReg | jmp | satsubr | satsub | sataddReg | mulhReg | zxb | sxb | zxh | sxh | orReg |
      xorReg | andReg | tst | subr | sub | addReg | cmpReg | dbtrap | movImm5 | sataddImm5 | addImm5 | cmpImm5 | callt |
      shrImm5 | sarImm5 | shlImm5 | mulhImm5 | sldBu =>
    simp only [Instr.wellFormed, Bool.and_eq_true, notR0_iff] at h
    simp [encode, decodeHalves_short, decode16, decode16Opcode, h]
  -- formats III and IV
  case sldB | sstB => simp [encode, decodeHalves_short, decode16]
  case sldHu =>
    simp only [Instr.wellFormed, Bool.and_eq_true, evenDisp_iff, notR0_iff] at h
    simp [encode, decodeHalves_short, decode16, decode16Opcode, h, append_low_bit]
  case bcond | sldH | sstH =>
    simp only [Instr.wellFormed, evenDisp_iff] at h
    simp [encode, decodeHalves_short, decode16, append_low_bit h]
  case sldW | sstW =>
    simp only [Instr.wellFormed, wordDisp_iff] at h
    simp [encode, decodeHalves_short, decode16, append_zero_of_word h]
  all_goals cases hlen

theorem decodeHalfList_encode_long {i : Instr} (hlen : i.length ≠ 2) (hext : i.isExtended = false)
    (h : i.wellFormed = true) : decodeHalfList (encode i) = .ok i := by
  unfold decodeHalfList
  cases i
  -- formats V and XIII and LD.BU, by the bits 10..6
  case jr | jarl =>
    simp only [Instr.wellFormed, Bool.and_eq_true, evenDisp_iff, notR0_iff] at h
    simp [encode, decodeHalves_long, decode32, h, append_low_bit]
  case ldBu | prepare | prepareSp | prepareImm16 | prepareHi16 | prepareImm32 | dispose | disposeJump =>
    simp only [Instr.wellFormed, notR0_iff] at h
    simp [encode, decodeHalves_long, decode32, decodePrepare, h]
  -- formats VI, VII and VIII, by the bits 10..5
  case addi | movea | movhi | satsubi | movImm32 | ori | xori | andi | mulhi | ldB | stB | set1Disp | not1Disp |
      clr1Disp | tst1Disp =>
    simp only [Instr.wellFormed, notR0_iff] at h
    simp [encode, decodeHalves_long, decode32, h]
  case ldH | ldW | stH | stW | ldHu =>
    simp only [Instr.wellFormed, Bool.and_eq_true, evenDisp_iff, notR0_iff] at h
    simp [encode, decodeHalves_long, decode32, h, append_low_bit]
  all_goals simp [Instr.length, Instr.isExtended] at hlen hext

theorem decodeHalfList_encode_extended {i : Instr} (hext : i.isExtended = true) :
    decodeHalfList (encode i) = .ok i := by
  unfold decodeHalfList
  cases i
  case illegal0111 => simp [encode, decodeHalves_of_opcode, decodeIllegal]
  case illegal1xxx bits15 bits4 bits31 bits25 bits22 =>
    simp [encode, decodeHalves_of_opcode, decodeIllegal, illegal1xxx_half, illegal1xxx_range]
  case halt | reti | ctret | dbret | di | ei => rfl
  case setf | ldsr | stsr | shrReg | sarReg | shlReg | set1Reg | not1Reg | clr1Reg | tst1Reg | sasf | trap | mulReg |
      muluReg | divhReg3 | divhu | div | divu | cmovReg | cmovImm5 | bsw | bsh | hsw =>
    simp [encode, decodeHalves_of_opcode, decodeExtended, withFixedBits]
  case mulImm9 imm9 reg2 reg3 | muluImm9 imm9 reg2 reg3 =>
    obtain hbit | hbit := eq_zero_or_one (imm9.extractLsb' 8 1) <;>
      simp [encode, decodeHalves_of_opcode, decodeExtended, extract_mulImm9_sub, hbit]
  all_goals cases hext

/-- Settles O2: the words of an instruction lead the decoder to its family, where the operands are the fields. -/
theorem decodeEncode : Obligations.DecodeEncode := by
  unfold Obligations.DecodeEncode
  intro i h
  by_cases hlen : i.length = 2
  · exact decodeHalfList_encode_short hlen h
  · cases hext : i.isExtended
    case false => exact decodeHalfList_encode_long hlen hext h
    case true => exact decodeHalfList_encode_extended hext

end Sys2Proof
end

section
/-! A decoded instruction is well formed, and the encoder writes the half-words it was read from (30_encoding.md
sections 3 to 5). In each arm of the decoder the opcode is a literal and every other field an operand or a bit that
the arm tests, so the half-words put together from the fields are those read. -/

namespace Sys2Proof

/-- If the decoder answers an instruction, it is well formed and its words are the half-words read. -/
def WrittenFrom (hs : List Half) (d : Except UndefinedClass Instr) : Prop :=
  ∀ i, d = .ok i → i.wellFormed = true ∧ encode i = hs.take (i.length / 2)

@[simp] theorem writtenFrom_error (hs : List Half) (c : UndefinedClass) : WrittenFrom hs (.error c) := nofun

@[simp] theorem writtenFrom_ok (hs : List Half) (i : Instr) :
    WrittenFrom hs (.ok i) ↔ i.wellFormed = true ∧ encode i = hs.take (i.length / 2) := by
  simp [WrittenFrom]

@[simp] theorem writtenFrom_ite (hs : List Half) (c : Prop) [Decidable c] (d e : Except UndefinedClass Instr) :
    WrittenFrom hs (if c then d else e) ↔ (c → WrittenFrom hs d) ∧ (¬c → WrittenFrom hs e) := by
  split <;> simp [*]

@[simp] theorem ok_ite (c : Prop) [Decidable c] (i j : Instr) :
    (Except.ok (if c then i else j) : Except UndefinedClass Instr) = if c then .ok i else .ok j := by
  split <;> rfl

@[simp] theorem writtenFrom_withFixedBits (hs : List Half) (asPrinted : Bool) (i : Instr) :
    WrittenFrom hs (withFixedBits asPrinted i) ↔ (asPrinted = true → WrittenFrom hs (.ok i)) := by
  simp [withFixedBits]

theorem eq_ofNat_of_toNat {w n : Nat} {x : BitVec w} (h : x.toNat = n) : x = BitVec.ofNat w n := by
  rw [← h, BitVec.ofNat_toNat, BitVec.setWidth_eq]

theorem bit_ne_zero_iff (b : BitVec 1) : ¬b = 0#1 ↔ b = 1#1 := by decide +revert

theorem exists_formatI (h : Half) : ∃ reg2 opcode low, h = formatI reg2 opcode low :=
  ⟨bits15to11 h, bits10to5 h, bits4to0 h, by simp⟩

theorem exists_formatIII (h : Half) :
    ∃ (high : BitVec 5) (opcode : BitVec 4) (low : BitVec 3) (code : BitVec 4), h = high ++ opcode ++ low ++ code :=
  ⟨bits15to11 h, bits10to7 h, h.extractLsb' 4 3, h.extractLsb' 0 4, by simp⟩

theorem exists_formatIVA (h : Half) : ∃ reg2 opcode low, h = formatIVA reg2 opcode low :=
  ⟨bits15to11 h, bits10to7 h, h.extractLsb' 0 7, by simp⟩

theorem exists_formatV (h : Half) : ∃ reg2 opcode low, h = formatV reg2 opcode low :=
  ⟨bits15to11 h, bits10to6 h, h.extractLsb' 0 6, by simp⟩

/-! ### 16-bit instructions -/

/-- Format IVB as format I: the bit above the displacement is the uppermost of bits 4..0. -/
theorem formatIVB_half {reg1 : BitVec 5} {bit4 : BitVec 1} (reg2 : BitVec 5) (h : reg1.extractLsb' 4 1 = bit4) :
    formatIVB reg2 (0b000011#6 ++ bit4) (reg1.extractLsb' 0 4) = formatI reg2 0b000011#6 reg1 := by
  have hreg1 : bit4 ++ reg1.extractLsb' 0 4 = reg1 := by
    rw [← h]
    simp
  have hassoc : reg2 ++ 0b000011#6 ++ bit4 = reg2 ++ (0b000011#6 ++ bit4) := BitVec.append_assoc
  calc formatIVB reg2 (0b000011#6 ++ bit4) (reg1.extractLsb' 0 4)
      = reg2 ++ 0b000011#6 ++ bit4 ++ reg1.extractLsb' 0 4 := by rw [hassoc]; rfl
    _ = reg2 ++ 0b000011#6 ++ (bit4 ++ reg1.extractLsb' 0 4) := BitVec.append_assoc
    _ = formatI reg2 0b000011#6 reg1 := by rw [hreg1]; rfl

/-- The arm of the opcode 000011: JMP, SLD.BU, SLD.HU. -/
theorem writtenFrom_opcode3 (reg2 reg1 : BitVec 5) (rest : List Half) :
    WrittenFrom (formatI reg2 0b000011#6 reg1 :: rest) (decode16Opcode (formatI reg2 0b000011#6 reg1)) := by
  have hSldBu : reg1.extractLsb' 4 1 = 0#1 → (reg2 ++ 0b0000110#7 ++ reg1.extractLsb' 0 4 : Half) =
      reg2 ++ 3#6 ++ reg1 := formatIVB_half reg2
  have hSldHu : reg1.extractLsb' 4 1 = 1#1 → (reg2 ++ 0b0000111#7 ++ reg1.extractLsb' 0 4 : Half) =
      reg2 ++ 3#6 ++ reg1 := formatIVB_half reg2
  simp +contextual [decode16Opcode, encode, Instr.wellFormed, evenDisp_iff, notR0_iff, Instr.length, bit_ne_zero_iff,
    hSldBu, hSldHu]

theorem writtenFrom_decode16Opcode {h0 : Half} (hop : (bits10to5 h0).toNat < 24)
    (hcallt : ¬(bits15to11 h0 = 0#5 ∧ bits10to6 h0 = 0b01000#5)) (rest : List Half) :
    WrittenFrom (h0 :: rest) (decode16Opcode h0) := by
  obtain ⟨reg2, op, reg1, rfl⟩ := exists_formatI h0
  have hfield : bits10to5 (formatI reg2 op reg1) = op := by simp
  rw [hfield] at hop
  by_cases hop3 : op = 3#6
  · rw [hop3]
    exact writtenFrom_opcode3 reg2 reg1 rest
  unfold decode16Opcode
  dsimp only
  rw [hfield]
  split
  case h_24 =>
    obtain rfl : op = 23#6 := eq_ofNat_of_toNat (by grind)
    simp +contextual [encode, Instr.wellFormed, notR0_iff, Instr.length]
  all_goals
    rename_i hop
    obtain rfl := eq_ofNat_of_toNat hop
    simp_all +contextual [encode, Instr.wellFormed, notR0_iff, Instr.length, ← not_and_or]

/-- The opcodes that the arms of `decode16` leave to formats I and II. -/
theorem opcode_lt_of_decode16 {h0 : Half} (hshort : h0.extractLsb' 9 2 ≠ 3#2)
    (hrest : (bits10to7 h0).toNat < 6 ∨ 11 < (bits10to7 h0).toNat) : (bits10to5 h0).toNat < 24 := by
  simp only [bits10to5, bits10to7, BitVec.toNat_eq, BitVec.extractLsb'_toNat, ne_eq] at *
  bv_omega

theorem writtenFrom_decode16 {h0 : Half} (hshort : h0.extractLsb' 9 2 ≠ 3#2) (rest : List Half) :
    WrittenFrom (h0 :: rest) (decode16 h0) := by
  unfold decode16
  dsimp only
  split
  case h_6 hop =>
    obtain ⟨high, op, low, code, rfl⟩ := exists_formatIII h0
    obtain rfl : op = 11#4 := by simpa using eq_ofNat_of_toNat hop
    simp [encode, Instr.wellFormed, evenDisp_iff, Instr.length]
  case h_7 =>
    split
    case isTrue h =>
      obtain ⟨reg2, op, low, rfl⟩ := exists_formatV h0
      obtain ⟨rfl, rfl⟩ : reg2 = 0#5 ∧ op = 8#5 := by simpa using h
      simp [encode, Instr.wellFormed, Instr.length]
    case isFalse h => exact writtenFrom_decode16Opcode (opcode_lt_of_decode16 hshort (by grind)) h rest
  all_goals
    rename_i hop
    obtain ⟨reg2, op, low, rfl⟩ := exists_formatIVA h0
    obtain rfl : op = _ := by simpa using eq_ofNat_of_toNat hop
    simp +contextual [encode, Instr.wellFormed, evenDisp_iff, wordDisp_iff, Instr.length, bit_ne_zero_iff,
      append_low_bit]

/-! ### Instructions of 32 bits and more -/

theorem exists_disp15Half (h : Half) : ∃ disp bit16, h = disp15Half disp bit16 :=
  ⟨bits15to1 h, bit0 h, by simp⟩

theorem exists_formatVIII (h : Half) :
    ∃ (sub : BitVec 2) (bit3 : BitVec 3) (opcode : BitVec 6) (reg1 : BitVec 5), h = sub ++ bit3 ++ opcode ++ reg1 :=
  ⟨h.extractLsb' 14 2, h.extractLsb' 11 3, bits10to5 h, bits4to0 h, by simp⟩

theorem writtenFrom_decodePrepare (low : BitVec 6) (h1 h2 h3 : Half) :
    WrittenFrom [formatV 0#5 0b11110#5 low, h1, h2, h3] (decodePrepare (formatV 0#5 0b11110#5 low) h1 h2 h3) := by
  have hbit10 := regListOf_bit10 (formatV 0#5 0b11110#5 low) h1
  have hlist := listHalf_regListOf (formatV 0#5 0b11110#5 low) h1
  unfold decodePrepare
  dsimp only
  generalize regListOf (formatV 0#5 0b11110#5 low) h1 = list12 at *
  simp only [formatV_eq, extract_append_low, Nat.reduceAdd, Nat.reduceLeDiff] at hbit10
  split
  case h_6 => exact writtenFrom_error _ _
  all_goals
    rename_i hsub
    rw [← bits4to0_eq, eq_ofNat_of_toNat hsub] at hlist
    simp [encode, Instr.wellFormed, Instr.length, hlist, hbit10]

theorem writtenFrom_dispose (low : BitVec 6) (h1 : Half) (rest : List Half) :
    WrittenFrom (formatV 0#5 0b11001#5 low :: h1 :: rest)
      (.ok (if bits4to0 h1 = 0#5 then .dispose ((formatV 0#5 0b11001#5 low).extractLsb' 1 5)
        (regListOf (formatV 0#5 0b11001#5 low) h1)
      else .disposeJump ((formatV 0#5 0b11001#5 low).extractLsb' 1 5) (regListOf (formatV 0#5 0b11001#5 low) h1)
        (bits4to0 h1))) := by
  have hbit10 := regListOf_bit10 (formatV 0#5 0b11001#5 low) h1
  have hlist := listHalf_regListOf (formatV 0#5 0b11001#5 low) h1
  generalize regListOf (formatV 0#5 0b11001#5 low) h1 = list12 at *
  simp only [formatV_eq, extract_append_low, Nat.reduceAdd, Nat.reduceLeDiff] at hbit10
  have hdispose : h1.extractLsb' 0 5 = 0#5 → listHalf list12 0#5 = h1 := fun h => by rwa [h] at hlist
  simp +contextual [encode, Instr.wellFormed, notR0_iff, Instr.length, hlist, hdispose, hbit10]

/-- The opcode 11110x: JR, JARL, PREPARE and LD.BU. -/
theorem writtenFrom_opcode11110 (reg2 : BitVec 5) (low : BitVec 6) (h1 h2 h3 : Half) :
    WrittenFrom [formatV reg2 0b11110#5 low, h1, h2, h3] (decode32 (formatV reg2 0b11110#5 low) h1 h2 h3) := by
  have hop : bits10to6 (formatV reg2 0b11110#5 low) = 0b11110#5 := by simp
  unfold decode32
  dsimp only
  rw [if_pos hop]
  by_cases hprepare : reg2 = 0#5 ∧ bit0 h1 ≠ 0#1
  case pos =>
    obtain ⟨rfl, hbit0⟩ := hprepare
    rw [if_neg hbit0, if_pos (by simp)]
    exact writtenFrom_decodePrepare low h1 h2 h3
  case neg =>
    obtain ⟨disp, bit16, rfl⟩ := exists_disp15Half h1
    obtain rfl | rfl := eq_zero_or_one bit16
    · simp +contextual [encode, Instr.wellFormed, evenDisp_iff, notR0_iff, Instr.length]
    · have hr0 : reg2 ≠ 0#5 := fun h => hprepare ⟨h, by simp⟩
      simp [encode, Instr.wellFormed, notR0_iff, Instr.length, hr0]

/-- The opcode 111110: the bit instructions with a displacement. -/
theorem writtenFrom_opcode111110 {h0 : Half} (hop : bits10to5 h0 = 0b111110#6) (h1 h2 h3 : Half) :
    WrittenFrom [h0, h1, h2, h3] (decode32 h0 h1 h2 h3) := by
  obtain ⟨sub, bit3, op, reg1, rfl⟩ := exists_formatVIII h0
  obtain rfl : op = 0b111110#6 := by simpa using hop
  have hsub : sub = 0#2 ∨ sub = 1#2 ∨ sub = 2#2 ∨ sub = 3#2 := by decide +revert
  obtain rfl | rfl | rfl | rfl := hsub <;> simp [decode32, encode, Instr.wellFormed, Instr.length]

theorem exists_formatXI {h : Half} (hbit0 : bit0 h = 0#1) : ∃ reg3 sub low, h = formatXI reg3 sub low := by
  refine ⟨bits15to11 h, bits10to5 h, bits4to1 h, ?_⟩
  rw [formatXI, ← hbit0]
  simp

theorem exists_illegalHalf {h : Half} (hbit0 : bit0 h = 0#1) :
    ∃ (bits31 : BitVec 5) (op : BitVec 4) (bits22 : BitVec 6), h = bits31 ++ op ++ bits22 ++ 0#1 := by
  refine ⟨bits15to11 h, bits10to7 h, h.extractLsb' 1 6, ?_⟩
  rw [← hbit0]
  simp

/-- Bits 4..0 that begin with a 0: a condition code below. -/
theorem zero_append_code {low : BitVec 5} (h : low.extractLsb' 4 1 = 0#1) : 0#1 ++ low.extractLsb' 0 4 = low := by
  rw [← h]
  simp

/-- From 1000 up, bits 26..23 are a 1 and the field of bits 25..23. -/
theorem illegal1xxx_field {op : BitVec 4} (hrange : 7 ≤ op.toNat) (hne : op ≠ 7#4) :
    1#1 ++ op.extractLsb' 0 3 = op := by
  decide +revert

theorem writtenFrom_decodeIllegal (reg2 reg1 : BitVec 5) {h1 : Half} (hbit0 : bit0 h1 = 0#1)
    (hrange : 7 ≤ (bits10to7 h1).toNat) (rest : List Half) :
    WrittenFrom (formatI reg2 0b111111#6 reg1 :: h1 :: rest)
      (.ok (decodeIllegal (formatI reg2 0b111111#6 reg1) h1)) := by
  obtain ⟨bits31, op, bits22, rfl⟩ := exists_illegalHalf hbit0
  have hfield : bits10to7 (bits31 ++ op ++ bits22 ++ 0#1) = op := by simp
  rw [hfield] at hrange
  unfold decodeIllegal
  rw [hfield]
  split
  case isTrue h0111 =>
    subst h0111
    simp [encode, Instr.wellFormed, Instr.length]
  case isFalse h1xxx =>
    simp [encode, Instr.wellFormed, Instr.length, illegal1xxx_half, illegal1xxx_field hrange h1xxx]

/-- The second half-word of MUL and MULU imm9 from its fields. -/
theorem mulImm9_half {h1 : Half} {bits17 : BitVec 2} (hop : bits10to6 h1 = 0b01001#5)
    (hlow : h1.extractLsb' 0 2 = bits17) :
    h1.extractLsb' 11 5 ++ 0b01001#5 ++ h1.extractLsb' 2 4 ++ bits17 = h1 := by
  rw [← hop, ← hlow]
  simp

theorem writtenFrom_mulImm9 {h0 h1 : Half} (hop : bits10to5 h0 = 0b111111#6) (hsub : bits10to6 h1 = 0b01001#5)
    (hbit0 : bit0 h1 = 0#1) (rest : List Half) :
    WrittenFrom (h0 :: h1 :: rest)
      (.ok (if h1.extractLsb' 1 1 = 0#1 then
          .mulImm9 (h1.extractLsb' 2 4 ++ bits4to0 h0) (bits15to11 h0) (bits15to11 h1)
        else .muluImm9 (h1.extractLsb' 2 4 ++ bits4to0 h0) (bits15to11 h0) (bits15to11 h1))) := by
  obtain ⟨reg2, op, reg1, rfl⟩ := exists_formatI h0
  obtain rfl : op = 0b111111#6 := by simpa using hop
  have hlow : h1.extractLsb' 1 1 ++ 0#1 = h1.extractLsb' 0 2 := by
    rw [← hbit0]
    simp
  obtain hbit17 | hbit17 := eq_zero_or_one (h1.extractLsb' 1 1) <;> rw [hbit17] at hlow
  · simp [encode, Instr.wellFormed, Instr.length, hbit17, mulImm9_half (bits17 := 0b00#2) hsub hlow.symm]
  · simp [encode, Instr.wellFormed, Instr.length, hbit17, mulImm9_half (bits17 := 0b10#2) hsub hlow.symm]

theorem writtenFrom_decodeExtended (reg2 reg1 : BitVec 5) {h1 : Half} (hbit0 : bit0 h1 = 0#1) (rest : List Half) :
    WrittenFrom (formatI reg2 0b111111#6 reg1 :: h1 :: rest) (decodeExtended (formatI reg2 0b111111#6 reg1) h1) := by
  obtain ⟨reg3, sub, low, rfl⟩ := exists_formatXI hbit0
  have hfield : bits10to5 (formatXI reg3 sub low) = sub := by simp
  unfold decodeExtended
  dsimp only
  rw [hfield]
  split
  case h_21 => exact writtenFrom_error _ _
  case h_14 hsub | h_15 hsub =>
    obtain rfl := eq_ofNat_of_toNat hsub
    exact writtenFrom_mulImm9 (by simp) (by simp) hbit0 rest
  all_goals
    rename_i hsub
    obtain rfl := eq_ofNat_of_toNat hsub
  case h_7 | h_10 | h_20 =>
    split <;> simp +contextual [encode, Instr.wellFormed, Instr.length]
  all_goals simp +contextual [encode, Instr.wellFormed, Instr.length, zero_append_code]

/-- The opcode 111111: LD.HU, the illegal instruction code and the extended map. -/
theorem writtenFrom_opcode111111 {h0 : Half} (hop : bits10to5 h0 = 0b111111#6) (h1 : Half) (rest : List Half) :
    WrittenFrom (h0 :: h1 :: rest)
      (if bit0 h1 = 1#1 then
        if bits15to11 h0 = 0#5 then .error .ldHuR0 else .ok (.ldHu (bits15to1 h1 ++ 0#1) (bits4to0 h0) (bits15to11 h0))
      else if 7 ≤ (bits10to7 h1).toNat then .ok (decodeIllegal h0 h1)
      else decodeExtended h0 h1) := by
  obtain ⟨reg2, op, reg1, rfl⟩ := exists_formatI h0
  obtain rfl : op = 0b111111#6 := by simpa using hop
  obtain hbit0 | hbit0 := eq_zero_or_one (bit0 h1)
  · rw [hbit0, if_neg (by decide), writtenFrom_ite]
    exact ⟨fun hrange => writtenFrom_decodeIllegal reg2 reg1 hbit0 hrange rest,
      fun _ => writtenFrom_decodeExtended reg2 reg1 hbit0 rest⟩
  · obtain ⟨disp, bit16, rfl⟩ := exists_disp15Half h1
    obtain rfl : bit16 = 1#1 := by simpa using hbit0
    simp +contextual [encode, Instr.wellFormed, evenDisp_iff, notR0_iff, Instr.length]

theorem writtenFrom_decode32 {h0 : Half} (hlong : h0.extractLsb' 9 2 = 3#2) (h1 h2 h3 : Half) :
    WrittenFrom [h0, h1, h2, h3] (decode32 h0 h1 h2 h3) := by
  by_cases hjump : bits10to6 h0 = 0b11110#5
  · obtain ⟨reg2, op, low, rfl⟩ := exists_formatV h0
    obtain rfl : op = 0b11110#5 := by simpa using hjump
    exact writtenFrom_opcode11110 reg2 low h1 h2 h3
  by_cases hbits : bits10to5 h0 = 0b111110#6
  · exact writtenFrom_opcode111110 hbits h1 h2 h3
  unfold decode32
  dsimp only
  rw [if_neg hjump]
  split
  case isTrue hdispose =>
    obtain ⟨reg2, op, low, rfl⟩ := exists_formatV h0
    obtain ⟨rfl, rfl⟩ : reg2 = 0#5 ∧ op = 0b11001#5 := by simpa using hdispose
    exact writtenFrom_dispose low h1 [h2, h3]
  case isFalse hdispose =>
    split
    case h_13 hop => exact absurd (eq_ofNat_of_toNat hop) hbits
    case h_14 =>
      have hop : bits10to5 h0 = 0b111111#6 := by
        refine opcode_of_untested hlong hjump ?_ ?_ <;> grind
      exact writtenFrom_opcode111111 hop h1 [h2, h3]
    case h_10 hop | h_12 hop =>
      obtain ⟨reg2, op, reg1, rfl⟩ := exists_formatI h0
      obtain rfl : op = _ := by simpa using eq_ofNat_of_toNat hop
      obtain ⟨disp, bit16, rfl⟩ := exists_disp15Half h1
      obtain rfl | rfl := eq_zero_or_one bit16 <;> simp [encode, Instr.wellFormed, evenDisp_iff, Instr.length]
    all_goals
      rename_i hop
      obtain ⟨reg2, op, reg1, rfl⟩ := exists_formatI h0
      obtain rfl : op = _ := by simpa using eq_ofNat_of_toNat hop
      simp_all +contextual [encode, Instr.wellFormed, notR0_iff, Instr.length]

theorem writtenFrom_decodeHalves (h0 h1 h2 h3 : Half) : WrittenFrom [h0, h1, h2, h3] (decodeHalves h0 h1 h2 h3) := by
  unfold decodeHalves
  split
  case isTrue hlong => exact writtenFrom_decode32 hlong h1 h2 h3
  case isFalse hshort => exact writtenFrom_decode16 hshort [h1, h2, h3]

/-- Settles O3: it holds in each arm of the decoder. -/
theorem encodeDecode : Obligations.EncodeDecode := by
  unfold Obligations.EncodeDecode
  exact writtenFrom_decodeHalves

end Sys2Proof
end

section
/-! What the first half-words of an instruction say: its length (30_encoding.md section 1), the undefined encodings
(section 4), the register list of PREPARE and DISPOSE (47_special.md section 6), and words written out (section 5). -/

namespace Sys2Proof
open Machine

/-- The length that 30_encoding.md R141 reads from the first half-words. -/
def lengthOfHalfWords (h0 h1 : Half) : Nat :=
  if h0.extractLsb' 9 2 ≠ 0b11#2 then 2
  else if h0.extractLsb' 5 6 = 0b110001#6 ∧ h0.extractLsb' 11 5 = 0#5 then 6
  else if h0.extractLsb' 6 5 = 0b11110#5 ∧ h0.extractLsb' 11 5 = 0#5 ∧ h1.getLsbD 0 = true ∧
      h1.extractLsb' 0 3 = 0b011#3 then
    if h1.extractLsb' 3 2 = 0b00#2 then 4 else if h1.extractLsb' 3 2 = 0b11#2 then 8 else 6
  else 4

theorem length_cases (i : Instr) : i.length = 2 ∨ i.length = 4 ∨ i.length = 6 ∨ i.length = 8 := by
  cases i <;> simp [Instr.length]

/-- A half-word whose bits 10..6 are not 11000 has not the opcode 110001. -/
theorem opcode_ne_110001 {high : BitVec 10} {low : BitVec 6} (h : high.extractLsb' 0 5 ≠ 0b11000#5) :
    (high ++ low : Half).extractLsb' 5 6 ≠ 0b110001#6 := by
  intro hop
  have hhigh := congrArg (BitVec.extractLsb' 1 5) hop
  simp only [extract_extract, extract_append_high, Nat.reduceAdd, Nat.reduceLeDiff, Nat.reduceSub] at hhigh
  exact h hhigh

theorem getLsbD_zero (h : Half) : h.getLsbD 0 = decide (h.extractLsb' 0 1 = 1#1) := by
  rw [BitVec.getLsbD_eq_extractLsb']
  rfl

theorem lengthOfHalfWords_short {i : Instr} (hlen : i.length = 2) (h1 : Half) :
    lengthOfHalfWords ((encode i).getD 0 0#16) h1 = 2 := by
  refine if_pos ?_
  cases i <;> simp [Instr.length] at hlen <;> simp [encode]

theorem lengthOfHalfWords_long {i : Instr} (hlen : i.length ≠ 2) (h : i.wellFormed = true) :
    lengthOfHalfWords ((encode i).getD 0 0#16) ((encode i).getD 1 0#16) = i.length := by
  unfold lengthOfHalfWords
  rw [getLsbD_zero]
  cases i <;>
    simp only [Instr.length, ne_eq, not_true_eq_false, Instr.wellFormed, notR0_iff, Bool.and_eq_true] at hlen h <;>
    simp [encode, Instr.length, opcode_ne_110001, h]

/-- Settles O4: by the round trip the half-words are those that the encoder writes, where the fields are known. -/
theorem lengthFromHalfWords : Obligations.LengthFromHalfWords := by
  unfold Obligations.LengthFromHalfWords
  intro h0 h1 h2 h3 i hdecode
  obtain ⟨hwf, hwords⟩ := encodeDecode h0 h1 h2 h3 i hdecode
  change i.length = lengthOfHalfWords h0 h1
  obtain hlen | hlong := length_cases i
  · have hshort := lengthOfHalfWords_short hlen h1
    rw [hwords, hlen] at hshort
    exact hlen.trans hshort.symm
  · have hlen : i.length ≠ 2 := by omega
    rw [← lengthOfHalfWords_long hlen hwf, hwords]
    obtain h | h | h := hlong <;> rw [h] <;> rfl

/-! ### Undefined encodings -/

theorem decodePrepare_undefined {h1 : Half} (hsub : h1.extractLsb' 0 5 ≠ 0b00001#5) (hff : h1.extractLsb' 0 3 ≠ 0b011#3)
    (h0 h2 h3 : Half) : decodePrepare h0 h1 h2 h3 = .error .prepareSubOpcode := by
  have hlow : (bits4to0 h1).extractLsb' 0 3 ≠ 0b011#3 := by simpa using hff
  unfold decodePrepare
  dsimp only
  split
  case h_1 h => exact absurd (eq_ofNat_of_toNat h) hsub
  case h_6 => rfl
  all_goals
    rename_i h
    rw [eq_ofNat_of_toNat h] at hlow
    exact absurd rfl hlow

/-- The cells of the extended map without an instruction (R168, R169), by the sub-opcode and the bits beside it. -/
def isUndefinedCell (reg2 : BitVec 5) (sub : BitVec 6) (low : BitVec 4) : Prop :=
  sub = 0b000011#6 ∨ (sub = 0b001010#6 ∧ low.extractLsb' 0 2 = 0b01#2) ∨
    (sub = 0b001011#6 ∧ reg2 ≠ 0#5 ∧ reg2 ≠ 0b10000#5) ∨ sub.extractLsb' 2 4 = 0b0011#4 ∨ sub = 0b010101#6 ∨
    sub = 0b010111#6 ∨ (sub = 0b011010#6 ∧ low.extractLsb' 0 2 = 0b11#2) ∨ sub = 0b011011#6

theorem decodeExtended_undefined {reg2 : BitVec 5} {sub : BitVec 6} {low : BitVec 4} (h : isUndefinedCell reg2 sub low)
    (reg1 reg3 : BitVec 5) :
    decodeExtended (formatI reg2 0b111111#6 reg1) (formatXI reg3 sub low) = .error .extendedMapCell := by
  obtain rfl | ⟨rfl, hlow⟩ | ⟨rfl, hdi, hei⟩ | hsub | rfl | rfl | ⟨rfl, hlow⟩ | rfl := h
  case inr.inl => simp [decodeExtended, hlow]
  case inr.inr.inl => simp [decodeExtended, hdi, hei]
  case inr.inr.inr.inl =>
    have hcell : sub = 12#6 ∨ sub = 13#6 ∨ sub = 14#6 ∨ sub = 15#6 := by decide +revert
    obtain rfl | rfl | rfl | rfl := hcell <;> simp [decodeExtended]
  case inr.inr.inr.inr.inr.inr.inl => simp [decodeExtended, hlow]
  all_goals simp [decodeExtended]

theorem isUndefinedCell_range {reg2 : BitVec 5} {sub : BitVec 6} {low : BitVec 4} (h : isUndefinedCell reg2 sub low) :
    (sub.extractLsb' 2 4).toNat < 7 := by
  obtain rfl | ⟨rfl, -⟩ | ⟨rfl, -, -⟩ | hsub | rfl | rfl | ⟨rfl, -⟩ | rfl := h
  case inr.inr.inr.inl => rw [hsub]; decide
  all_goals decide

/-- Settles O6: (a) to (c) by the opcode, (d) and (f) under the opcode 111111, (e) under 11110x. -/
theorem undefinedEncodings : Obligations.UndefinedEncodings := by
  unfold Obligations.UndefinedEncodings
  intro h0 h1 h2 h3
  obtain ⟨reg2, op, reg1, rfl⟩ := exists_formatI h0
  refine ⟨?a, ?b, ?c, ?d, ?e, ?f⟩
  case a =>
    rintro ⟨hop, hreg1, hreg2⟩
    obtain rfl : op = 0b000010#6 := by simpa using hop
    obtain rfl : reg1 = 0#5 := by simpa using hreg1
    have hr31 : reg2 ≠ 31#5 := by simpa using hreg2
    simp [decodeHalves_short, decode16, decode16Opcode, hr31]
  case b =>
    rintro ⟨hreg2, hop⟩
    obtain rfl : reg2 = 0#5 := by simpa using hreg2
    obtain rfl : op = 0b010111#6 := by simpa using hop
    simp [decodeHalves_short, decode16, decode16Opcode]
  case c =>
    rintro ⟨hreg2, hop⟩
    obtain rfl : reg2 = 0#5 := by simpa using hreg2
    obtain rfl : op = 0b110111#6 := by simpa using hop
    simp [decodeHalves_long, decode32]
  case d =>
    rintro ⟨hreg2, hop, hbit0⟩
    rw [decodeHalves_of_opcode hop, if_pos ((bit0_eq_one_iff h1).mpr hbit0)]
    exact if_pos hreg2
  case e =>
    rintro ⟨hreg2, hop, hbit0, hsub, hff⟩
    obtain rfl : reg2 = 0#5 := by simpa using hreg2
    have hop5 : op.extractLsb' 1 5 = 0b11110#5 := by simpa using hop
    have hbit16 : h1.extractLsb' 0 1 = 1#1 := (bit0_eq_one_iff h1).mpr hbit0
    have hops : op = 0b111100#6 ∨ op = 0b111101#6 := by decide +revert
    obtain rfl | rfl := hops <;>
      simp [decodeHalves_long, decode32, hbit16, decodePrepare_undefined hsub hff]
  case f =>
    rintro ⟨hop, hbit0, hcell⟩
    have hbit16 : ¬bit0 h1 = 1#1 := by rw [bit0_eq_one_iff, hbit0]; exact Bool.false_ne_true
    obtain ⟨reg3, sub, low, rfl⟩ := exists_formatXI ((eq_zero_or_one (bit0 h1)).resolve_right hbit16)
    have hundef : isUndefinedCell reg2 sub low := by simpa [isUndefinedCell] using hcell
    have hrange : ¬7 ≤ (bits10to7 (formatXI reg3 sub low)).toNat := by
      simpa using isUndefinedCell_range hundef
    rw [decodeHalves_of_opcode hop, if_neg hbit16, if_neg hrange]
    obtain rfl : op = 0b111111#6 := by simpa using hop
    exact decodeExtended_undefined hundef reg1 reg3

/-! ### The register list -/

theorem mem_listedRegs (list12 : RegList) (r : RegNum) :
    r ∈ listedRegs list12 ↔
      (r = 20 ∧ list12.getLsbD 0) ∨ (r = 21 ∧ list12.getLsbD 1) ∨ (r = 22 ∧ list12.getLsbD 2) ∨
      (r = 23 ∧ list12.getLsbD 3) ∨ (r = 24 ∧ list12.getLsbD 4) ∨ (r = 25 ∧ list12.getLsbD 5) ∨
      (r = 26 ∧ list12.getLsbD 6) ∨ (r = 27 ∧ list12.getLsbD 7) ∨ (r = 28 ∧ list12.getLsbD 8) ∨
      (r = 29 ∧ list12.getLsbD 9) ∨ (r = 30 ∧ list12.getLsbD 10) ∨ (r = 31 ∧ list12.getLsbD 11) := by
  have hbit (n : RegNum) : (r = n ∧ list12.getLsbD (r.toNat - 20)) ↔ (r = n ∧ list12.getLsbD (n.toNat - 20)) :=
    and_congr_right fun h => by rw [h]
  simp only [listedRegs, List.mem_filter, List.mem_cons, List.not_mem_nil, or_false, or_and_right, hbit]
  rfl

theorem listedRegs_pairwise (list12 : RegList) : (listedRegs list12).Pairwise (· < ·) :=
  List.Pairwise.filter _ (by decide)

/-- Settles O7: bit i of the list names r(20+i), and each bit of the list is the bit of its field. -/
theorem registerListField : Obligations.RegisterListField := by
  unfold Obligations.RegisterListField
  intro h0 h1
  refine ⟨fun r => ?_, listedRegs_pairwise _⟩
  simp only [mem_listedRegs, BitVec.getLsbD_eq_extractLsb']
  simp [regListOf]

/-- Settles O1: each word decodes by evaluation. -/
theorem knownWordsDecode : Obligations.KnownWordsDecode := by
  unfold Obligations.KnownWordsDecode
  exact ⟨rfl, rfl, rfl, rfl, rfl, rfl, rfl, rfl, rfl, rfl, rfl, rfl, rfl⟩

end Sys2Proof
end

section
/-! Steps, requests, HALT mode and reset (60_exceptions.md sections 2 to 4, 47_special.md sections 3 and 4,
70_reset_and_hazards.md section 1): which way a step takes, and in which state an instruction then runs. -/

namespace Sys2Proof.Machine

/-! ### The ways of a step -/

theorem step_of_reset {s : State} (h : s.resetAsserted = true) : step s = .next s.takeInput.systemReset := by
  simp [step, h]

theorem step_of_staysHalted {s : State} (hreset : s.resetAsserted = false) (h : s.takeInput.staysHalted = true) :
    step s = .next s.takeInput := by
  simp [step, hreset, h]

theorem step_of_accepted {s : State} {e : Event} (hreset : s.resetAsserted = false)
    (hstays : s.takeInput.staysHalted = false) (h : s.takeInput.accepted = some e) :
    step s = .next (s.takeInput.wake.accept e) := by
  simp [step, hreset, hstays, h]

theorem step_of_not_accepted {s : State} (hreset : s.resetAsserted = false) (hstays : s.takeInput.staysHalted = false)
    (h : s.takeInput.accepted = none) : step s = runInstruction s.takeInput.wake := by
  simp [step, hreset, hstays, h]

/-- With no reset, no HALT mode going on and no request accepted, a step is the decoded instruction. -/
theorem step_of_fetch {s : State} {i : Instr} (hreset : s.resetAsserted = false)
    (hstays : s.takeInput.staysHalted = false) (hacc : s.takeInput.accepted = none) (h : s.fetch = .ok i) :
    step s = exec i s.takeInput.wake.begin := by
  rw [step_of_not_accepted hreset hstays hacc, runInstruction, fetch_takeInput_wake, h]

/-- Settles O9: the one path of the step with no reset, no stay and no accepted request. -/
theorem stepRunsDecoded : Obligations.StepRunsDecoded := by
  unfold Obligations.StepRunsDecoded
  intro s i hreset hstays hacc hdecode
  rw [step_of_fetch hreset hstays hacc hdecode, ← takeInput_tick s]
  rfl

/-- Settles O10: the same path, where the decoder answers a class. -/
theorem stepRefusesUndefined : Obligations.StepRefusesUndefined := by
  unfold Obligations.StepRefusesUndefined
  intro s c hreset hstays hacc hdecode
  have hfetch : s.fetch = .error c := hdecode
  rw [step_of_not_accepted hreset hstays hacc, runInstruction, fetch_takeInput_wake, hfetch]

/-! ### Requests -/

theorem staysHalted_eq_false {s : State} (h : s.requests ≠ Requests.none) : s.staysHalted = false := by
  have hany : s.requests.any = true := by
    rw [← Bool.not_eq_false, requests_any_eq_false]
    exact h
  simp [State.staysHalted, hany]

theorem accepted_of_acceptPoint {s : State} (h : s.acceptPoint = true) : s.accepted = s.acceptable := if_pos h

theorem acceptable_maskable {s : State} {code : Half}
    (h : s.requests = { nmi0 := false, nmi1 := false, nmi2 := false, int := some code }) (hnp : s.flag .np = false)
    (hid : s.flag .id = false) : s.acceptable = some (.maskable code) := by
  simp [State.acceptable, State.maskableEnabled, h, hnp, hid]

/-- NP = 1 holds everything back but NMI2 (R452, R456). -/
theorem acceptable_of_np {s : State} (h2 : s.requests.nmi2 = false) (hnp : s.flag .np = true) :
    s.acceptable = none := by
  unfold State.acceptable State.maskableEnabled
  simp only [h2, hnp]
  cases s.requests.int <;> simp

/-- ID = 1 holds a maskable request back (R452). -/
theorem acceptable_of_id {s : State} (h2 : s.requests.nmi2 = false) (h1 : s.requests.nmi1 = false)
    (h0 : s.requests.nmi0 = false) (hid : s.flag .id = true) : s.acceptable = none := by
  unfold State.acceptable State.maskableEnabled
  simp only [h2, h1, h0, hid]
  cases s.requests.int <;> simp

/-- The state in which an instruction runs has the registers, pc and memory of the boundary. -/
theorem begin_takeInput_kept (s : State) :
    let u := s.takeInput.wake.begin
    u.requests = s.takeInput.requests ∧ RegsAre s u [] ∧ SysKept [] s u ∧ u.pc = s.pc ∧ u.mem = s.mem := by
  refine ⟨rfl, fun r => ?regs, fun r _ => ?sys, ?pc, ?mem⟩
  case regs => simp [State.regAfter]
  all_goals simp

/-- Settles O14: each of the three conditions leaves no request accepted. -/
theorem requestsHeld : Obligations.RequestsHeld := by
  unfold Obligations.RequestsHeld
  intro s i hreset hstays hheld hdecode
  have hacc : s.takeInput.accepted = none := by
    obtain hpoint | ⟨h2, hnp⟩ | ⟨h2, h1, h0, hid⟩ := hheld
    case inl => simp [State.accepted, hpoint]
    case inr.inl => simp [State.accepted, acceptable_of_np h2 ((flag_takeInput ..).trans hnp)]
    case inr.inr => simp [State.accepted, acceptable_of_id h2 h1 h0 ((flag_takeInput ..).trans hid)]
  exact ⟨_, step_of_fetch hreset hstays hacc hdecode, begin_takeInput_kept s⟩

/-- Settles O15: without a request the step is the input taken; with one that is held, the decoded instruction. -/
theorem haltMode : Obligations.HaltMode := by
  unfold Obligations.HaltMode
  intro s hhalted hreset
  refine ⟨fun hnone => ?stays, fun hsome hacc i hdecode => ?runs⟩
  case stays =>
    have hstays : s.takeInput.staysHalted = true := by simp [State.staysHalted, hhalted, hnone, requests_any_eq_false]
    rw [step_of_staysHalted hreset hstays, takeInput_eq, takeInput_host, hnone]
  case runs =>
    obtain ⟨hrequests, hregs, hsys, hpc, hmem⟩ := begin_takeInput_kept s
    exact ⟨_, step_of_fetch hreset (staysHalted_eq_false hsome) hacc hdecode, rfl, hrequests, hpc, hregs, hsys, hmem,
      takeInput_host s, rfl, takeInput_product s, takeInput_hostAreas s⟩

/-! ### Entries at a boundary -/

theorem regAfter_congr {s s' : State} (h : ∀ r, s'.reg r = s.reg r) (writes : List (RegNum × Word)) (r : RegNum) :
    s'.regAfter writes r = s.regAfter writes r := by
  induction writes with
  | nil => exact h r
  | cons w earlier ih => simp only [State.regAfter, ih]

theorem flagAfter_congr {s s' : State} (h : ∀ b, s'.flag b = s.flag b) (writes : List (PswBit × Bool)) (b : PswBit) :
    s'.flagAfter writes b = s.flagAfter writes b := by
  induction writes with
  | nil => exact h b
  | cons w earlier ih => simp only [State.flagAfter, ih]

/-- An entry looks at the registers, the system registers, pc and memory of the states before and after. -/
theorem enters_congr {s s' t t' : State} {pcReg pswReg : SysReg} {rpc pc : Word} {flags : List (PswBit × Bool)}
    {others : List SysReg} (h : Enters s t pcReg pswReg rpc flags pc others) (hgr : s'.gr = s.gr)
    (hsys : ∀ r, s'.sysReg r = s.sysReg r) (hmem : s'.mem = s.mem) (hgr' : t'.gr = t.gr)
    (hsys' : ∀ r, t'.sysReg r = t.sysReg r) (hpc' : t'.pc = t.pc) (hmem' : t'.mem = t.mem) :
    Enters s' t' pcReg pswReg rpc flags pc others := by
  obtain ⟨hpcReg, hpswReg, ⟨hflags, hhigh⟩, hpc, hkept, hregs, hmemKept⟩ := h
  have hpsw : s'.psw = s.psw := hsys .psw
  have hpsw' : t'.psw = t.psw := hsys' .psw
  refine ⟨(hsys' _).trans hpcReg, ?pswReg, ⟨fun b => ?flag, ?high⟩, hpc'.trans hpc, fun r hr => ?sys, fun r => ?reg,
    fun a => ?mem⟩
  case pswReg => rw [hsys', hpswReg, hpsw]
  case flag => rw [flag_of_psw hpsw', hflags, flagAfter_congr (flag_of_psw hpsw)]
  case high => rw [hpsw', hhigh, hpsw]
  case sys => rw [hsys', hkept r hr, hsys]
  case reg => rw [reg_of_gr hgr', hregs, regAfter_congr (reg_of_gr hgr)]
  case mem => rw [hmem', hmemKept, hmem]

/-- Accepting a request is its entry, seen from the boundary. -/
theorem enters_accept {s : State} {e : Event} {pcReg pswReg : SysReg} {rpc pc : Word} {flags : List (PswBit × Bool)}
    {others : List SysReg}
    (h : Enters s.takeInput.wake (s.takeInput.wake.raise e s.takeInput.wake.pc) pcReg pswReg rpc flags pc others) :
    Enters s (s.takeInput.wake.accept e) pcReg pswReg rpc flags pc others :=
  enters_congr h (by simp) (by simp) (by simp) (by simp [State.accept]) (by simp [State.accept])
    (by simp [State.accept]) (by simp [State.accept])

/-- What an accepted request leaves, seen from the boundary: awake, no acceptance point, the input consumed. -/
theorem accept_takeInput_outside (s : State) (e : Event) :
    let t := s.takeInput.wake.accept e
    t.requests = (s.takeInput.acknowledge e).requests ∧ t.halted = false ∧ t.acceptPoint = false ∧
      t.host = s.host.tail ∧ t.product = s.product ∧ t.hostAreas = s.hostAreas ∧ t.tick = s.tick := by
  obtain ⟨hrequests, hpoint, hhalted, hhost, hproduct, hareas, htick⟩ := accept_outside s.takeInput.wake e
  refine ⟨hrequests.trans ?_, hhalted, hpoint, hhost.trans (takeInput_host s), hproduct.trans (takeInput_product s),
    hareas.trans (takeInput_hostAreas s), htick.trans (takeInput_tick s)⟩
  unfold State.acknowledge
  split <;> rfl

theorem ecr_accept (s : State) (e : Event) :
    (s.takeInput.wake.accept e).ecr = (s.takeInput.wake.raise e s.takeInput.wake.pc).ecr := by
  simp [State.accept]

/-- Settles O12: the request is the one accepted, and its entry is R460 from the waking state. -/
theorem maskableInterruptEntry : Obligations.MaskableInterruptEntry := by
  unfold Obligations.MaskableInterruptEntry
  intro s code hpc hreset hpoint hrequests hnp hid
  have hstays : s.takeInput.staysHalted = false := staysHalted_eq_false (by rw [hrequests]; simp [Requests.none])
  have hacc : s.takeInput.accepted = some (.maskable code) := by
    rw [accepted_of_acceptPoint (by simpa using hpoint)]
    exact acceptable_maskable hrequests (by simpa using hnp) (by simpa using hid)
  have hpc' : isPc s.takeInput.wake.pc := by simpa using hpc
  have hentry := enters_accept (enters_maskable s.takeInput.wake code hpc')
  rw [wake_pc, takeInput_pc] at hentry
  obtain ⟨hacknowledged, houtside⟩ := accept_takeInput_outside s (.maskable code)
  refine ⟨_, step_of_accepted hreset hstays hacc, hentry, ?eicc, ?fecc, ?requests, houtside⟩
  case eicc => rw [ecr_accept, ecr_raise_maskable, BitVec.extractLsb'_append_eq_right]
  case fecc => rw [ecr_accept, ecr_raise_maskable, BitVec.extractLsb'_append_eq_left, wake_ecr, takeInput_ecr]
  case requests => rw [hacknowledged, State.acknowledge, hrequests]; rfl

/-- The non-maskable input of a number. -/
def nmiOfNumber : Nat → NmiInput
  | 0 => .nmi0
  | 1 => .nmi1
  | _ => .nmi2

/-- NMIk is the request taken: it is pending, no higher one is, and below NMI2 NP is 0 (R448, R456, R458). -/
def nmiPending (r : Requests) (np : Bool) (k : Nat) : Prop :=
  (k = 2 ∧ r.nmi2 = true) ∨ (k = 1 ∧ r.nmi2 = false ∧ r.nmi1 = true ∧ np = false) ∨
    (k = 0 ∧ r.nmi2 = false ∧ r.nmi1 = false ∧ r.nmi0 = true ∧ np = false)

theorem number_nmiOfNumber {r : Requests} {np : Bool} {k : Nat} (h : nmiPending r np k) :
    (nmiOfNumber k).number = k := by
  obtain ⟨rfl, -⟩ | ⟨rfl, -⟩ | ⟨rfl, -⟩ := h <;> rfl

theorem acceptable_nmi {s : State} {k : Nat} (h : nmiPending s.requests (s.flag .np) k) :
    s.acceptable = some (.nmi (nmiOfNumber k)) := by
  obtain ⟨rfl, h2⟩ | ⟨rfl, h2, h1, hnp⟩ | ⟨rfl, h2, h1, h0, hnp⟩ := h
  case inl => simp [State.acceptable, nmiOfNumber, h2]
  case inr.inl => simp [State.acceptable, nmiOfNumber, h2, h1, hnp]
  case inr.inr => simp [State.acceptable, nmiOfNumber, h2, h1, h0, hnp]

theorem requests_ne_none_of_nmi {r : Requests} {np : Bool} {k : Nat} (h : nmiPending r np k) : r ≠ Requests.none := by
  rintro rfl
  simp [nmiPending, Requests.none] at h

/-- The acknowledgement of NMIk clears its line only. -/
theorem requests_acknowledge_nmi {r : Requests} {np : Bool} {k : Nat} (h : nmiPending r np k) (s : State)
    (hr : s.requests = r) :
    (s.acknowledge (.nmi (nmiOfNumber k))).requests =
      { r with
        nmi0 := r.nmi0 && decide (k ≠ 0), nmi1 := r.nmi1 && decide (k ≠ 1), nmi2 := r.nmi2 && decide (k ≠ 2) } := by
  obtain ⟨rfl, -⟩ | ⟨rfl, -⟩ | ⟨rfl, -⟩ := h <;> simp [State.acknowledge, nmiOfNumber, hr]

/-- Settles O13: the request is the one accepted, and its entry is R461 from the waking state. -/
theorem nonMaskableInterruptEntry : Obligations.NonMaskableInterruptEntry := by
  unfold Obligations.NonMaskableInterruptEntry
  refine ⟨fun s k hpc hreset hpoint hpending => ?taken, fun s => ?lines⟩
  case lines => exact takeInput_requests s
  case taken =>
    have hpending : nmiPending s.takeInput.requests (s.flag .np) k := hpending
    have hacc : s.takeInput.accepted = some (.nmi (nmiOfNumber k)) := by
      rw [accepted_of_acceptPoint (by simpa using hpoint)]
      exact acceptable_nmi (by simpa using hpending)
    have hpc' : isPc s.takeInput.wake.pc := by simpa using hpc
    have hentry := enters_accept (enters_nmi s.takeInput.wake (nmiOfNumber k) hpc')
    rw [wake_pc, takeInput_pc, number_nmiOfNumber hpending] at hentry
    obtain ⟨hacknowledged, houtside⟩ := accept_takeInput_outside s (.nmi (nmiOfNumber k))
    rw [requests_acknowledge_nmi hpending s.takeInput rfl] at hacknowledged
    refine ⟨_, step_of_accepted hreset (staysHalted_eq_false (requests_ne_none_of_nmi hpending)) hacc, hentry, ?fecc,
      ?eicc, ?nmi0, ?nmi1, ?nmi2, ?int, houtside⟩
    case fecc => rw [ecr_accept, ecr_raise_nmi, BitVec.extractLsb'_append_eq_left, number_nmiOfNumber hpending]
    case eicc => rw [ecr_accept, ecr_raise_nmi, BitVec.extractLsb'_append_eq_right, wake_ecr, takeInput_ecr]
    all_goals rw [hacknowledged]

/-! ### Reset -/

/-- Settles O16: the state of reset with memory and what lies outside the core kept. -/
theorem systemReset : Obligations.SystemReset := by
  unfold Obligations.SystemReset
  intro s input rest hhost hreset
  have hasserted : s.resetAsserted = true := by simpa [State.resetAsserted, hhost] using hreset
  refine ⟨_, step_of_reset hasserted, rfl, rfl, rfl, rfl, rfl, rfl, rfl, takeInput_mem s, ?host⟩
  case host => exact (takeInput_host s).trans (by rw [hhost]; rfl)

/-- Settles O17: every value is a literal of the reset state. -/
theorem resetValues : Obligations.ResetValues := by
  unfold Obligations.ResetValues
  refine ⟨rfl, rfl, rfl, rfl, rfl, rfl, ?_, ?_, rfl⟩ <;> decide

end Sys2Proof.Machine
end

section
/-! Memory and registers (20_memory.md sections 1, 2, 4 and 5, 10_state.md section 1): reads as numbers, reads after
writes, the areas of the address space, the fetch, and r0. -/

namespace Sys2Proof.Machine

/-- Settles O20: by the laws of memory (Laws/Memory.lean). -/
theorem memoryLaws : Obligations.MemoryLaws := by
  unfold Obligations.MemoryLaws
  exact ⟨fun m a b h ha => wf_write h ha, fun m a x b h => read_write h a b x,
    fun m n hm hn h => eq_of_read_from hm hn h⟩

/-- Settles O23: by the rule of a register read after a register write. -/
theorem zeroRegister : Obligations.ZeroRegister := by
  unfold Obligations.ZeroRegister
  refine fun s v => ⟨reg_zero s, if_pos rfl, fun r hr q => ?_⟩
  have hr : r ≠ 0#5 := hr
  rw [reg_setReg, if_neg hr]

/-! ### Reads -/

/-- The value of a concatenation, the low part first. -/
theorem toNat_append_eq {v w : Nat} (high : BitVec v) (low : BitVec w) :
    (high ++ low).toNat = low.toNat + 2 ^ w * high.toNat := by
  rw [BitVec.toNat_append, ← Nat.shiftLeft_add_eq_or_of_lt low.isLt, Nat.shiftLeft_eq]
  ring

theorem add_ofNat_eq (a : Word) (k : Nat) : a + BitVec.ofNat 32 k = BitVec.ofNat 32 (a.toNat + k) := by
  rw [BitVec.ofNat_add, BitVec.ofNat_toNat, BitVec.setWidth_eq]

theorem toNat_load2 (s : State) (a : Word) :
    (s.load2 a).toNat = (s.byteAt a).toNat + 256 * (s.byteAt (BitVec.ofNat 32 (a.toNat + 1))).toNat := by
  rw [← add_ofNat_eq]
  exact toNat_append_eq _ _

theorem toNat_load4 (s : State) (a : Word) :
    (s.load4 a).toNat = (s.byteAt a).toNat + 256 * (s.byteAt (BitVec.ofNat 32 (a.toNat + 1))).toNat +
      65536 * (s.byteAt (BitVec.ofNat 32 (a.toNat + 2))).toNat +
      16777216 * (s.byteAt (BitVec.ofNat 32 (a.toNat + 3))).toNat := by
  rw [← add_ofNat_eq, ← add_ofNat_eq, ← add_ofNat_eq, State.load4, toNat_append_eq, toNat_append_eq, toNat_append_eq]
  ring

/-- Settles O21: a read is a concatenation of bytes. -/
theorem memReadValue : Obligations.MemReadValue := by
  unfold Obligations.MemReadValue
  exact fun s a => ⟨rfl, toNat_load2 s a, toNat_load4 s a⟩

/-! ### The fetch -/

theorem lt_of_isPc {v : Word} (h : isPc v) : v.toNat < 2 ^ 26 ∧ v.toNat % 2 = 0 := by
  constructor
  · have hv : v.toNat &&& 2 ^ 26 - 1 = v.toNat := congrArg BitVec.toNat (and_storedBits_of_isPc h)
    rw [Nat.and_two_pow_sub_one_eq_mod] at hv
    omega
  · have hbit : (v &&& 0xFC000001#32).getLsbD 0 = false := by rw [h]; rfl
    simpa [BitVec.getLsbD_and, BitVec.getLsbD, Nat.testBit_zero] using hbit

/-- The reduction of an even address is its remainder modulo 2^26. -/
theorem reducePc_ofNat_of_even {n : Nat} (h : n % 2 = 0) :
    reducePc (BitVec.ofNat 32 n) = BitVec.ofNat 32 (n % 2 ^ 26) := by
  apply BitVec.eq_of_getLsbD_eq
  intro i hi
  rw [reducePc_bit, BitVec.getLsbD_ofNat, BitVec.getLsbD_ofNat, Nat.testBit_mod_two_pow]
  cases i with
  | zero => simp [Nat.testBit_zero, h]
  | succ j => simp [hi]

theorem fetchAddress_eq {s : State} (h : isPc s.pc) (k : Nat) :
    s.fetchAddress k = BitVec.ofNat 32 ((s.pc.toNat + 2 * k) % 2 ^ 26) := by
  obtain ⟨-, heven⟩ := lt_of_isPc h
  rw [State.fetchAddress, add_ofNat_eq, reducePc_ofNat_of_even (by omega)]

/-- Settles O8: a half-word is a read of two bytes at an even address reduced modulo 2^26. -/
theorem fetchedHalfWords : Obligations.FetchedHalfWords := by
  unfold Obligations.FetchedHalfWords
  intro s k hpc hk
  have ha : (s.pc.toNat + 2 * k) % 2 ^ 26 < 2 ^ 26 := Nat.mod_lt _ (by decide)
  dsimp only
  generalize hdef : (s.pc.toNat + 2 * k) % 2 ^ 26 = a at ha ⊢
  have haddr : s.fetchAddress k = BitVec.ofNat 32 a := by rw [fetchAddress_eq hpc, hdef]
  have hlo : (BitVec.ofNat 32 a).toNat = a := by
    rw [BitVec.toNat_ofNat]
    omega
  have hhi : (BitVec.ofNat 32 (a + 1)).toNat = a + 1 := by
    rw [BitVec.toNat_ofNat]
    omega
  refine ⟨?value, fun h => ?low, fun h => ?high⟩
  case value =>
    rw [State.fetchHalf, haddr, toNat_load2, hlo]
    rfl
  case low => exact (byteAt_memory (s := s.nextTick) (by simpa using h)).trans (by rw [hlo]; rfl)
  case high => exact (byteAt_memory (s := s.nextTick) (by simpa using h)).trans (by rw [hhi]; rfl)

/-! ### Loads after stores -/

/-- A byte stored in RAM is read back. -/
theorem byteAt_of_memStored {s t : State} {a : Word} {bytes : List Byte} (h : MemStored s t a bytes) {k : Nat}
    (hk : k < bytes.length) (hram : s.inRam (a + BitVec.ofNat 32 k) = true) (ht : ∀ x, t.inRam x = s.inRam x) :
    t.byteAt (a + BitVec.ofNat 32 k) = bytes[k] := by
  obtain ⟨hstored, -⟩ := h
  rw [byteAt_memory (inHostArea_of_inRam ((ht _).trans hram)), hstored k hk, if_pos hram]

theorem load1_store1 {s : State} {a : Word} (hwf : s.mem.wf = true)
    (hram : ∀ k, k < 4 → s.inRam (a + BitVec.ofNat 32 k) = true) (v : Byte) : (s.store1 a v).load1 a = v := by
  simpa [State.load1] using
    byteAt_of_memStored (memStored_store1 s hwf a v) (k := 0) (by simp) (hram 0 (by decide)) (by simp)

theorem load2_store2 {s : State} {a : Word} (hwf : s.mem.wf = true)
    (hram : ∀ k, k < 4 → s.inRam (a + BitVec.ofNat 32 k) = true) (v : Half) : (s.store2 a v).load2 a = v := by
  have hbyte (k : Nat) (hk : k < 2) : (s.store2 a v).byteAt (a + BitVec.ofNat 32 k) = (halfBytes v)[k]'hk :=
    byteAt_of_memStored (memStored_store2 s hwf a v) hk (hram k (by omega)) (by simp)
  have h0 : (s.store2 a v).byteAt a = v.extractLsb' 0 8 := by simpa [halfBytes] using hbyte 0 (by decide)
  have h1 : (s.store2 a v).byteAt (a + 1#32) = v.extractLsb' 8 8 := hbyte 1 (by decide)
  rw [State.load2, h0, h1]
  simp

theorem load4_store4 {s : State} {a : Word} (hwf : s.mem.wf = true)
    (hram : ∀ k, k < 4 → s.inRam (a + BitVec.ofNat 32 k) = true) (v : Word) : (s.store4 a v).load4 a = v := by
  have hbyte (k : Nat) (hk : k < 4) : (s.store4 a v).byteAt (a + BitVec.ofNat 32 k) = (wordBytes v)[k]'hk :=
    byteAt_of_memStored (memStored_store4 s hwf a v) hk (hram k hk) (by simp)
  have h0 : (s.store4 a v).byteAt a = v.extractLsb' 0 8 := by simpa [wordBytes] using hbyte 0 (by decide)
  have h1 : (s.store4 a v).byteAt (a + 1#32) = v.extractLsb' 8 8 := hbyte 1 (by decide)
  have h2 : (s.store4 a v).byteAt (a + 2#32) = v.extractLsb' 16 8 := hbyte 2 (by decide)
  have h3 : (s.store4 a v).byteAt (a + 3#32) = v.extractLsb' 24 8 := hbyte 3 (by decide)
  rw [State.load4, h0, h1, h2, h3]
  simp

/-! ### The areas of the address space -/

theorem store1_of_not_inRam {s : State} {a : Word} (h : s.inRam a = false) (v : Byte) : s.store1 a v = s := by
  simp [State.store1, h]

theorem target_of_peripheral (s : State) {a : Word} (h : 0x03FFF000 ≤ a.toNat ∧ a.toNat ≤ 0x03FFFFFF) :
    s.target a = .host := by
  have hp : peripheralArea.holds a = true := by
    rw [holds_iff]
    simp only [peripheralArea]
    omega
  simp [State.target, hp]

theorem target_of_irom {s : State} {a : Word} (hareas : s.hostAreas = []) (hsize : a.toNat < s.product.iromSize)
    (ha : a.toNat < 0x01000000) : s.target a = .rom := by
  have hp : peripheralArea.holds a = false := by
    rw [← Bool.not_eq_true, holds_iff]
    simp only [peripheralArea]
    omega
  have hrom : s.product.iromArea.holds a = true := by
    rw [holds_iff]
    simp only [Product.iromArea]
    omega
  simp [State.target, hareas, hp, hrom]

theorem target_of_iram {s : State} {a : Word} (hareas : s.hostAreas = []) (hsize : s.product.iramSize ≤ 0xF000)
    (hlow : 0x03FFF000 ≤ a.toNat + s.product.iramSize) (hhigh : a.toNat < 0x03FFF000) : s.target a = .ram := by
  have hp : peripheralArea.holds a = false := by
    rw [← Bool.not_eq_true, holds_iff]
    simp only [peripheralArea]
    omega
  have hrom : s.product.iromArea.holds a = false := by
    rw [← Bool.not_eq_true, holds_iff]
    simp only [Product.iromArea]
    omega
  have hram : s.product.iramArea.holds a = true := by
    rw [holds_iff]
    simp only [Product.iramArea]
    omega
  simp [State.target, hareas, hp, hrom, hram]

/-- Settles O22: a stored byte is read back, and the map is a chain of tests of areas. -/
theorem loadAfterStore : Obligations.LoadAfterStore := by
  unfold Obligations.LoadAfterStore
  refine ⟨fun s a hwf hram => ⟨load1_store1 hwf hram, load2_store2 hwf hram, load4_store4 hwf hram⟩,
    fun s a v h => ⟨store1_of_not_inRam h v, byteAt_memory⟩, fun s a => ⟨fun h => ?peripheral,
      fun hareas hsize ha => ?irom,
    fun hareas hsize hlow hhigh => ?iram⟩⟩
  case peripheral => simp [State.inHostArea, target_of_peripheral s h]
  case irom => simp [State.inHostArea, State.inRam, target_of_irom hareas hsize ha]
  case iram => simp [State.inRam, target_of_iram hareas hsize hlow hhigh]

end Sys2Proof.Machine
end

section
/-! Results with their flags (00_scope.md R21, 43_saturated.md R290, R291, 44_logical.md R319): the overflow as an exact
value out of range and as a test of sign bits, and the flags of each operation as the list of writes that the statements
name. -/

namespace Sys2Proof.Machine

/-! ### Sign and overflow -/

theorem getLsbD_31_eq_decide (v : Word) : v.getLsbD 31 = decide (2147483648 ≤ v.toNat) :=
  (BitVec.msb_eq_getLsbD_last v).symm.trans (BitVec.msb_eq_decide v)

/-- The signed value of a word by its sign bit. -/
theorem toInt_eq_of_sign (v : Word) :
    v.toInt = if 2147483648 ≤ v.toNat then (v.toNat : Int) - 4294967296 else (v.toNat : Int) := by
  rw [BitVec.toInt_eq_toNat_cond]
  split <;> split <;> omega

theorem outOfRange_iff (x : Int) : outOfRange x = true ↔ ¬(-2147483648 ≤ x ∧ x ≤ 2147483647) := by
  simp only [outOfRange, Bool.or_eq_true, decide_eq_true_eq]
  omega

theorem overflows_eq_outOfRange (x : Int) : overflows x = outOfRange x := by
  rw [Bool.eq_iff_iff, outOfRange_iff, overflows, decide_eq_true_eq]

/-- An addition overflows when the operands have one sign and the sum the other. -/
theorem outOfRange_add_iff (a b : Word) : outOfRange (a.toInt + b.toInt) = true ↔
    a.getLsbD 31 = b.getLsbD 31 ∧ (a + b).getLsbD 31 ≠ a.getLsbD 31 := by
  have ha := a.isLt
  have hb := b.isLt
  simp only [outOfRange_iff, getLsbD_31_eq_decide, toInt_eq_of_sign, BitVec.toNat_add, decide_eq_decide, ne_eq]
  split <;> split <;> omega

/-- A subtraction overflows when the operands differ in sign and the difference has the sign of the second. -/
theorem outOfRange_sub_iff (a b : Word) : outOfRange (a.toInt - b.toInt) = true ↔
    a.getLsbD 31 ≠ b.getLsbD 31 ∧ (a - b).getLsbD 31 ≠ a.getLsbD 31 := by
  have ha := a.isLt
  have hb := b.isLt
  simp only [outOfRange_iff, getLsbD_31_eq_decide, toInt_eq_of_sign, BitVec.toNat_sub, decide_eq_decide, ne_eq]
  split <;> split <;> omega

/-- Settles O25: the flags by their definition, the sign-bit forms of the overflow by cases on the signs. -/
theorem flagHelpers : Obligations.FlagHelpers := by
  unfold Obligations.FlagHelpers
  refine fun a b => ⟨⟨rfl, decide_eq_true_iff, ?addExact, outOfRange_add_iff a b, ?addSign, decide_eq_true_iff⟩,
    ⟨rfl, decide_eq_true_iff, ?subExact, outOfRange_sub_iff a b, ?subSign, decide_eq_true_iff⟩⟩
  case addExact => exact outOfRange_iff _
  case subExact => exact outOfRange_iff _
  case addSign => exact BitVec.msb_eq_getLsbD_last (a + b)
  case subSign => exact BitVec.msb_eq_getLsbD_last (a - b)

/-! ### The flags as lists of writes -/

/-- The writes of CY, OV, S and Z of a result with its flags. -/
def Flagged.writes (f : Flagged) : List (PswBit × Bool) := [(.cy, f.cy), (.ov, f.ov), (.s, f.s), (.z, f.z)]

theorem writes_addFlags (a b : Word) : (addFlags a b).writes = addWrites a b := by
  rw [addWrites, overflows_eq_outOfRange, ← show (a + b).msb = (a + b).getLsbD 31 from BitVec.msb_eq_getLsbD_last _]
  rfl

theorem writes_subFlags (a b : Word) : (subFlags a b).writes = subWrites a b := by
  rw [subWrites, overflows_eq_outOfRange, ← show (a - b).msb = (a - b).getLsbD 31 from BitVec.msb_eq_getLsbD_last _]
  rfl

theorem writes_shiftFlags (res : Word) (lastOut : Bool) :
    (shiftFlags res lastOut).writes = shiftWrites res lastOut := by
  rw [shiftWrites, logicWrites_eq]
  rfl

/-! ### Addition, subtraction, comparison -/

theorem completes_add {i : Instr} {s : State} {dest : RegNum} {a b : Word} {len : Nat}
    (h : exec i s = s.arithmetic dest (addFlags a b) len) :
    Completes i s [(dest, a + b)] (addWrites a b) (s.nextPc len) :=
  writes_addFlags a b ▸ completes_arithmetic h

theorem completes_sub {i : Instr} {s : State} {dest : RegNum} {a b : Word} {len : Nat}
    (h : exec i s = s.arithmetic dest (subFlags a b) len) :
    Completes i s [(dest, a - b)] (subWrites a b) (s.nextPc len) :=
  writes_subFlags a b ▸ completes_arithmetic h

theorem completes_cmp {i : Instr} {s : State} {a b : Word} {len : Nat} (h : exec i s = s.compare (subFlags a b) len) :
    Completes i s [] (subWrites a b) (s.nextPc len) :=
  writes_subFlags a b ▸ completes_compare h

/-- Settles O37: each form ends in `State.arithmetic` with the flags of its sum or difference. -/
theorem addSubForms : Obligations.AddSubForms := by
  unfold Obligations.AddSubForms
  exact fun s reg1 reg2 imm5 imm16 =>
    ⟨completes_add rfl, completes_add rfl, completes_add rfl, completes_sub rfl, completes_sub rfl⟩

theorem flag_of_completes {i : Instr} {s t : State} {regs : List (RegNum × Word)} {flags : List (PswBit × Bool)}
    {pc : Word} (h : Completes i s regs flags pc) (ht : exec i s = .next t) (b : PswBit) :
    t.flag b = s.flagAfter flags b := by
  obtain ⟨u, hu, -, ⟨hflags, -⟩, -⟩ := h
  obtain rfl : u = t := Host.Outcome.next.inj (hu.symm.trans ht)
  exact hflags b

/-- S and OV of a subtraction differ exactly when the first operand is less, as signed words. -/
theorem sub_sign_ne_overflow_iff (a b : Word) :
    ((a - b).getLsbD 31 != overflows (a.toInt - b.toInt)) = true ↔ a.toInt < b.toInt := by
  have ha := a.isLt
  have hb := b.isLt
  simp only [overflows, getLsbD_31_eq_decide, toInt_eq_of_sign, BitVec.toNat_sub, bne_iff_ne, ne_eq, decide_eq_decide]
  split <;> split <;> omega

/-- Settles O38: the conditions are read from the flag writes of the comparison. -/
theorem compareForms : Obligations.CompareForms := by
  unfold Obligations.CompareForms
  intro s reg1 reg2 imm5
  have hcmp : Completes (.cmpReg reg1 reg2) s [] (subWrites (s.reg reg2) (s.reg reg1)) (s.nextPc 2) := completes_cmp rfl
  refine ⟨hcmp, completes_cmp rfl, fun t ht => ?_⟩
  have hflag := flag_of_completes hcmp ht
  generalize s.reg reg2 = a at hflag ⊢
  generalize s.reg reg1 = b at hflag ⊢
  have hlt : t.cond .lt = true ↔ a.toInt < b.toInt := by
    rw [cond_lt, hflag, hflag]
    exact sub_sign_ne_overflow_iff a b
  have hc : t.flag .cy = true ↔ a.toNat < b.toNat := by
    rw [hflag]
    exact decide_eq_true_iff
  have hz : t.flag .z = true ↔ a = b := by
    rw [hflag]
    exact decide_eq_true_iff.trans sub_eq_zero
  refine ⟨hlt, ?gt, hc, ?h, hz⟩
  case gt =>
    have hgt : t.cond .gt = (!t.cond .lt && !t.flag .z) := Bool.not_or ..
    have hne : a = b ↔ a.toInt = b.toInt := BitVec.toInt_inj.symm
    rw [hgt, Bool.and_eq_true, Bool.not_eq_true', Bool.not_eq_true', ← Bool.not_eq_true, ← Bool.not_eq_true, hlt, hz,
      hne]
    omega
  case h =>
    have hh : t.cond .h = (!t.flag .cy && !t.flag .z) := Bool.not_or ..
    have hne : a = b ↔ a.toNat = b.toNat := BitVec.toNat_inj.symm
    rw [hh, Bool.and_eq_true, Bool.not_eq_true', Bool.not_eq_true', ← Bool.not_eq_true, ← Bool.not_eq_true, hc, hz, hne]
    omega

end Sys2Proof.Machine
end

section
/-! The operations that write one or two registers (41_multiply.md, 42_arithmetic.md sections 3 and 4, 43_saturated.md,
44_logical.md): each result as the exact number that the statement names, then the form by the end it shares with its
family. -/

namespace Sys2Proof.Machine

/-! ### Saturated operations -/

theorem clamp_range (x : Int) : -2147483648 ≤ clamp x ∧ clamp x ≤ 2147483647 := by
  unfold clamp
  omega

theorem toInt_ofInt_of_range {x : Int} (h : -2147483648 ≤ x ∧ x ≤ 2147483647) : (BitVec.ofInt 32 x).toInt = x := by
  rw [BitVec.toInt_ofInt]
  exact Int.bmod_eq_of_le (by omega) (by omega)

theorem msb_ofInt_of_range {x : Int} (h : -2147483648 ≤ x ∧ x ≤ 2147483647) :
    (BitVec.ofInt 32 x).msb = decide (x < 0) := by
  rw [BitVec.msb_eq_toInt, toInt_ofInt_of_range h]

theorem ofInt_eq_zero_iff_of_range {x : Int} (h : -2147483648 ≤ x ∧ x ≤ 2147483647) :
    BitVec.ofInt 32 x = 0#32 ↔ x = 0 := by
  rw [← BitVec.toInt_inj, toInt_ofInt_of_range h]
  rfl

theorem saturate_ofInt (x : Int) : saturate x (BitVec.ofInt 32 x) = BitVec.ofInt 32 (clamp x) := by
  unfold saturate
  split
  · rw [show clamp x = 2147483647 by unfold clamp; omega]
    rfl
  · split
    · rw [show clamp x = -2147483648 by unfold clamp; omega]
      rfl
    · rw [show clamp x = x by unfold clamp; omega]

/-- A saturated operation with the exact value x of a plain operation whose wrapped result is that of x. -/
theorem completes_saturated_ofInt {i : Instr} {s : State} {reg2 : RegNum} {plain : Flagged} {x : Int} {len : Nat}
    (h : exec i s = s.saturatedOp reg2 (saturated plain x) len) (hresult : plain.result = BitVec.ofInt 32 x)
    (hov : plain.ov = outOfRange x) :
    Completes i s [(reg2, BitVec.ofInt 32 (clamp x))] (s.satWrites x plain.cy) (s.nextPc len) := by
  have hres : (saturated plain x).result = BitVec.ofInt 32 (clamp x) := by
    rw [← saturate_ofInt, ← hresult]
    rfl
  have hs : (saturated plain x).s = decide (x < 0) := by
    have hsign : clamp x < 0 ↔ x < 0 := by
      unfold clamp
      omega
    rw [show (saturated plain x).s = (saturated plain x).result.msb from rfl, hres, msb_ofInt_of_range (clamp_range x),
      decide_eq_decide.mpr hsign]
  have hz : (saturated plain x).z = decide (x = 0) := by
    have hzero : clamp x = 0 ↔ x = 0 := by
      unfold clamp
      omega
    rw [show (saturated plain x).z = decide ((saturated plain x).result = 0#32) from rfl, hres]
    exact decide_eq_decide.mpr ((ofInt_eq_zero_iff_of_range (clamp_range x)).trans hzero)
  have hwrites : s.satWrites x plain.cy = [(.cy, (saturated plain x).cy), (.ov, (saturated plain x).ov),
      (.s, (saturated plain x).s), (.z, (saturated plain x).z), (.sat, s.flag .sat || (saturated plain x).ov)] := by
    rw [hs, hz, State.satWrites, overflows_eq_outOfRange, ← hov]
    rfl
  rw [hwrites, ← hres]
  exact completes_saturated h

theorem completes_satAdd {i : Instr} {s : State} {reg2 : RegNum} {a b : Word} {len : Nat}
    (h : exec i s = s.saturatedOp reg2 (satAdd a b) len) :
    Completes i s [(reg2, BitVec.ofInt 32 (clamp (a.toInt + b.toInt)))]
      (s.satWrites (a.toInt + b.toInt) (decide (a.toNat + b.toNat ≥ 2 ^ 32))) (s.nextPc len) := by
  refine completes_saturated_ofInt h ?_ rfl
  rw [BitVec.ofInt_add, BitVec.ofInt_toInt, BitVec.ofInt_toInt]
  rfl

theorem completes_satSub {i : Instr} {s : State} {reg2 : RegNum} {a b : Word} {len : Nat}
    (h : exec i s = s.saturatedOp reg2 (satSub a b) len) :
    Completes i s [(reg2, BitVec.ofInt 32 (clamp (a.toInt - b.toInt)))]
      (s.satWrites (a.toInt - b.toInt) (decide (a.toNat < b.toNat))) (s.nextPc len) := by
  refine completes_saturated_ofInt h ?_ rfl
  rw [← BitVec.toInt_inj, BitVec.toInt_ofInt]
  exact BitVec.toInt_sub

/-- Settles O44: each form ends in `State.saturatedOp` with its exact value. -/
theorem saturatedForms : Obligations.SaturatedForms := by
  unfold Obligations.SaturatedForms
  exact fun s reg1 reg2 imm5 imm16 =>
    ⟨completes_satAdd rfl, completes_satAdd rfl, completes_satSub rfl, completes_satSub rfl, completes_satSub rfl⟩

/-! ### Shifts -/

theorem shiftLeft_eq_ofNat (v : Word) (n : Nat) : v <<< n = BitVec.ofNat 32 (v.toNat * 2 ^ n) := by
  apply BitVec.eq_of_toNat_eq
  rw [BitVec.toNat_shiftLeft, Nat.shiftLeft_eq, BitVec.toNat_ofNat]

theorem shiftRight_eq_ofNat (v : Word) (n : Nat) : v >>> n = BitVec.ofNat 32 (v.toNat / 2 ^ n) := by
  apply BitVec.eq_of_toNat_eq
  rw [BitVec.toNat_ushiftRight, Nat.shiftRight_eq_div_pow, BitVec.toNat_ofNat,
    Nat.mod_eq_of_lt (Nat.lt_of_le_of_lt (Nat.div_le_self _ _) v.isLt)]

theorem sshiftRight_eq_ofInt (v : Word) (n : Nat) : v.sshiftRight n = BitVec.ofInt 32 (v.toInt / 2 ^ n) := by
  rw [← BitVec.ofInt_toInt (x := v.sshiftRight n), BitVec.toInt_sshiftRight, Int.shiftRight_eq_div_pow]
  rfl

theorem and_ne_zero_eq_ite (n : Nat) (b : Bool) : (decide (n ≠ 0) && b) = if n = 0 then false else b := by
  by_cases h : n = 0 <;> simp [h]

theorem completes_shiftFlags {i : Instr} {s : State} {dest : RegNum} {res : Word} {out : Bool} {len : Nat}
    (h : exec i s = s.shifted dest (shiftFlags res out) len) :
    Completes i s [(dest, res)] (shiftWrites res out) (s.nextPc len) :=
  writes_shiftFlags res out ▸ completes_shifted h

theorem completes_sar {i : Instr} {s : State} {dest : RegNum} {v : Word} {n len : Nat}
    (h : exec i s = s.shifted dest (shiftArithmeticRight v n) len) :
    Completes i s [(dest, BitVec.ofInt 32 (v.toInt / 2 ^ n))]
      (shiftWrites (BitVec.ofInt 32 (v.toInt / 2 ^ n)) (if n = 0 then false else v.getLsbD (n - 1)))
        (s.nextPc len) := by
  rw [← sshiftRight_eq_ofInt, ← and_ne_zero_eq_ite]
  exact completes_shiftFlags h

theorem completes_shl {i : Instr} {s : State} {dest : RegNum} {v : Word} {n len : Nat}
    (h : exec i s = s.shifted dest (shiftLeft v n) len) :
    Completes i s [(dest, BitVec.ofNat 32 (v.toNat * 2 ^ n))]
      (shiftWrites (BitVec.ofNat 32 (v.toNat * 2 ^ n)) (if n = 0 then false else v.getLsbD (32 - n)))
        (s.nextPc len) := by
  rw [← shiftLeft_eq_ofNat, ← and_ne_zero_eq_ite]
  exact completes_shiftFlags h

theorem completes_shr {i : Instr} {s : State} {dest : RegNum} {v : Word} {n len : Nat}
    (h : exec i s = s.shifted dest (shiftRight v n) len) :
    Completes i s [(dest, BitVec.ofNat 32 (v.toNat / 2 ^ n))]
      (shiftWrites (BitVec.ofNat 32 (v.toNat / 2 ^ n)) (if n = 0 then false else v.getLsbD (n - 1)))
        (s.nextPc len) := by
  rw [← shiftRight_eq_ofNat, ← and_ne_zero_eq_ite]
  exact completes_shiftFlags h

/-- Settles O46: each form ends in `State.shifted` with a shift by an exact number. -/
theorem shiftForms : Obligations.ShiftForms := by
  unfold Obligations.ShiftForms
  exact fun s reg1 reg2 imm5 =>
    ⟨completes_sar rfl, completes_sar rfl, completes_shl rfl, completes_shl rfl, completes_shr rfl, completes_shr rfl⟩

/-! ### Swaps -/

/-- A swap: CY by a test on the result, OV 0, S its sign and Z by another test. -/
theorem completes_swap {i : Instr} {s : State} {dest : RegNum} {f : Flagged} {len : Nat} {cy z : Bool}
    (h : exec i s = s.shifted dest f len) (hcy : f.cy = cy) (hov : f.ov = false) (hs : f.s = f.result.msb)
    (hz : f.z = z) :
    Completes i s [(dest, f.result)] [(.cy, cy), (.ov, false), (.s, f.result.getLsbD 31), (.z, z)] (s.nextPc len) := by
  rw [← hcy, ← hov, ← hz, ← show f.result.msb = f.result.getLsbD 31 from BitVec.msb_eq_getLsbD_last _, ← hs]
  exact completes_shifted h

theorem cy_byteSwapWord (v : Word) : (byteSwapWord v).cy = decide (∃ k : Fin 4, v.extractLsb' (8 * k.val) 8 = 0) := by
  simp [byteSwapWord, byteOf, Fin.exists_fin_succ, Bool.or_comm]

theorem cy_halfSwapWord (v : Word) :
    (halfSwapWord v).cy = decide (v.extractLsb' (16 * 0) 16 = 0 ∨ v.extractLsb' (16 * 1) 16 = 0) := by
  simp [halfSwapWord, halfOf, Bool.or_comm]

/-- Settles O47: each form ends in `State.shifted`; CY tests the same bytes in another order. -/
theorem swapForms : Obligations.SwapForms := by
  unfold Obligations.SwapForms
  intro s reg2 reg3
  refine ⟨?bsh, ?bsw, ?hsw⟩
  case bsh => exact completes_swap (f := byteSwapHalf _) rfl (Bool.decide_or ..).symm rfl rfl rfl
  case bsw => exact completes_swap (f := byteSwapWord _) rfl (cy_byteSwapWord _) rfl rfl rfl
  case hsw => exact completes_swap (f := halfSwapWord _) rfl (cy_halfSwapWord _) rfl rfl rfl

/-! ### Extensions and transfers -/

theorem zext_lowByte (v : Word) : zext (lowByte v) = v &&& 0x000000FF#32 := by
  apply BitVec.eq_of_toNat_eq
  rw [BitVec.toNat_and, show (0x000000FF#32).toNat = 2 ^ 8 - 1 from rfl, Nat.and_two_pow_sub_one_eq_mod, zext,
    lowByte, BitVec.toNat_setWidth_of_le (by decide), BitVec.extractLsb'_toNat, Nat.shiftRight_zero]

theorem zext_lowHalf (v : Word) : zext (lowHalf v) = v &&& 0x0000FFFF#32 := by
  apply BitVec.eq_of_toNat_eq
  rw [BitVec.toNat_and, show (0x0000FFFF#32).toNat = 2 ^ 16 - 1 from rfl, Nat.and_two_pow_sub_one_eq_mod, zext,
    lowHalf, BitVec.toNat_setWidth_of_le (by decide), BitVec.extractLsb'_toNat, Nat.shiftRight_zero]

/-- Settles O48: a sign extension is the word of the signed value, a zero extension a mask. -/
theorem extensionForms : Obligations.ExtensionForms := by
  unfold Obligations.ExtensionForms
  refine fun s reg1 => ⟨completes_extended rfl, completes_extended rfl, ?zxb, ?zxh⟩
  case zxb => exact zext_lowByte _ ▸ completes_extended rfl
  case zxh => exact zext_lowHalf _ ▸ completes_extended rfl

theorem append_zero_eq_ofNat (imm16 : Half) : imm16 ++ 0#16 = BitVec.ofNat 32 (65536 * imm16.toNat) := by
  apply BitVec.eq_of_toNat_eq
  have h := imm16.isLt
  rw [toNat_append_eq, BitVec.toNat_ofNat, BitVec.toNat_ofNat]
  omega

/-- Settles O39: each form ends in `State.move`, and NOP is a jump to the next instruction. -/
theorem moveForms : Obligations.MoveForms := by
  unfold Obligations.MoveForms
  refine fun s reg1 reg2 imm5 imm16 imm32 =>
    ⟨completes_move rfl, completes_move rfl, completes_move rfl, completes_move rfl, ?movhi, completes_jump rfl⟩
  case movhi => exact append_zero_eq_ofNat imm16 ▸ completes_move rfl

theorem ite_one_zero_eq_ofNat (c : Bool) : (if c then 1#32 else 0#32) = BitVec.ofNat 32 (if c then 1 else 0) := by
  cases c <;> rfl

theorem shiftLeft_one_or_ite (v : Word) (c : Bool) :
    (v <<< 1 ||| if c then 1#32 else 0#32) = BitVec.ofNat 32 (2 * v.toNat + if c then 1 else 0) := by
  have hbit : (if c then 1#32 else 0#32).toNat = if c then 1 else 0 := by cases c <;> rfl
  have hlt : (if c then 1 else 0) < 2 ^ 1 := by cases c <;> decide
  have hdouble : (v <<< 1).toNat = (v.toNat % 2 ^ 31) <<< 1 := by
    rw [BitVec.toNat_shiftLeft, Nat.shiftLeft_eq, Nat.shiftLeft_eq]
    omega
  apply BitVec.eq_of_toNat_eq
  rw [BitVec.toNat_or, hbit, hdouble, ← Nat.shiftLeft_add_eq_or_of_lt hlt, Nat.shiftLeft_eq, BitVec.toNat_ofNat]
  omega

/-- Settles O40: each form ends in `State.move`. -/
theorem conditionForms : Obligations.ConditionForms := by
  unfold Obligations.ConditionForms
  refine fun s cond reg1 reg2 reg3 imm5 => ⟨?setf, ?sasf, completes_move rfl, completes_move rfl⟩
  case setf => exact ite_one_zero_eq_ofNat _ ▸ completes_move rfl
  case sasf => exact shiftLeft_one_or_ite _ _ ▸ completes_move rfl

/-! ### Products -/

theorem ofInt_high (x : Int) : (BitVec.ofInt 64 x).extractLsb' 32 32 = BitVec.ofInt 32 (x / 2 ^ 32) := by
  apply BitVec.eq_of_toNat_eq
  rw [BitVec.extractLsb'_toNat, BitVec.toNat_ofInt, BitVec.toNat_ofInt, Nat.shiftRight_eq_div_pow]
  omega

theorem ofInt_low (x : Int) : (BitVec.ofInt 64 x).extractLsb' 0 32 = BitVec.ofInt 32 x := by
  apply BitVec.eq_of_toNat_eq
  rw [BitVec.extractLsb'_toNat, BitVec.toNat_ofInt, BitVec.toNat_ofInt, Nat.shiftRight_eq_div_pow]
  omega

theorem ofNat_high (x : Nat) : (BitVec.ofNat 64 x).extractLsb' 32 32 = BitVec.ofNat 32 (x / 2 ^ 32) := by
  apply BitVec.eq_of_toNat_eq
  rw [BitVec.extractLsb'_toNat, BitVec.toNat_ofNat, BitVec.toNat_ofNat, Nat.shiftRight_eq_div_pow]
  omega

theorem ofNat_low (x : Nat) : (BitVec.ofNat 64 x).extractLsb' 0 32 = BitVec.ofNat 32 x := by
  apply BitVec.eq_of_toNat_eq
  rw [BitVec.extractLsb'_toNat, BitVec.toNat_ofNat, BitVec.toNat_ofNat, Nat.shiftRight_eq_div_pow]
  omega

theorem completes_ofInt {i : Instr} {s : State} {reg2 reg3 : RegNum} {x : Int}
    (h : exec i s = .next ((s.setProduct reg2 reg3 (BitVec.ofInt 64 x)).advance 4)) :
    Completes i s [(reg3, BitVec.ofInt 32 (x / 2 ^ 32)), (reg2, BitVec.ofInt 32 x)] [] (s.nextPc 4) := by
  rw [← ofInt_high, ← ofInt_low]
  exact completes_product h

theorem completes_ofNat {i : Instr} {s : State} {reg2 reg3 : RegNum} {x : Nat}
    (h : exec i s = .next ((s.setProduct reg2 reg3 (BitVec.ofNat 64 x)).advance 4)) :
    Completes i s [(reg3, BitVec.ofNat 32 (x / 2 ^ 32)), (reg2, BitVec.ofNat 32 x)] [] (s.nextPc 4) := by
  rw [← ofNat_high, ← ofNat_low]
  exact completes_product h

/-- The excluded combination of 41_multiply.md R239: where reg1 is not r0, neither is the equal reg3. -/
theorem multiplyNotGuaranteed_iff (reg1 reg2 reg3 : RegNum) :
    multiplyNotGuaranteed reg1 reg2 reg3 = true ↔ reg1 = reg3 ∧ reg1 ≠ reg2 ∧ reg1 ≠ 0 ∧ reg3 ≠ 0 := by
  rw [multiplyNotGuaranteed, decide_eq_true_iff]
  constructor
  · rintro ⟨rfl, hne, h0⟩
    exact ⟨rfl, hne, h0, h0⟩
  · rintro ⟨heq, hne, h0, -⟩
    exact ⟨heq, hne, h0⟩

/-- Settles O35: the halves of the 64-bit product are its quotient and remainder by 2^32. -/
theorem multiplyForms : Obligations.MultiplyForms := by
  unfold Obligations.MultiplyForms
  refine fun s reg1 reg2 reg3 imm9 => ⟨fun h => ?regs, ?mul, ?mulu⟩
  case regs =>
    rw [← multiplyNotGuaranteed_iff] at h
    exact ⟨completes_ofInt (if_neg h), completes_ofNat (if_neg h)⟩
  case mul =>
    rw [← show (sext imm9).toInt = imm9.toInt from BitVec.toInt_signExtend_of_le (by decide)]
    exact completes_ofInt rfl
  case mulu =>
    rw [← show (zext imm9).toNat = imm9.toNat from BitVec.toNat_setWidth_of_le (by decide)]
    exact completes_ofNat rfl

theorem halfProduct_eq (a b : Half) : halfProduct a b = a.signExtend 32 * b.signExtend 32 := BitVec.ofInt_mul ..

theorem halfProduct_signExtend (a : Half) (b : BitVec 5) :
    halfProduct a (b.signExtend 16) = a.signExtend 32 * b.signExtend 32 := by
  rw [halfProduct, BitVec.toInt_signExtend_of_le (by decide)]
  exact BitVec.ofInt_mul ..

/-- Settles O36: the product of the extensions is the extension of the product. -/
theorem halfMultiplyForms : Obligations.HalfMultiplyForms := by
  unfold Obligations.HalfMultiplyForms
  refine fun s reg1 reg2 imm5 imm16 => ⟨?reg, ?imm5, ?imm16⟩
  case reg => exact halfProduct_eq _ _ ▸ completes_move rfl
  case imm5 => exact halfProduct_signExtend _ _ ▸ completes_move rfl
  case imm16 => exact halfProduct_eq _ _ ▸ completes_move rfl

end Sys2Proof.Machine
end

section
/-! Division (42_arithmetic.md section 5): the quotient rounded toward zero with its remainder, the one overflow, and a
divisor of 0. -/

namespace Sys2Proof.Machine

/-! ### Signed division -/

/-- Division rounded toward zero: the remainder is smaller than the divisor and has the sign of the dividend. -/
theorem tdiv_tmod_spec (a : Int) {b : Int} (hb : b ≠ 0) :
    a = a.tdiv b * b + a.tmod b ∧ |a.tmod b| < |b| ∧ 0 ≤ a.tmod b * a := by
  refine ⟨(Int.tdiv_mul_add_tmod a b).symm, ?smaller, ?sign⟩
  case smaller =>
    have h : (a.tmod b).natAbs < b.natAbs := by
      rw [Int.natAbs_tmod]
      exact Nat.mod_lt _ (Int.natAbs_pos.mpr hb)
    rw [Int.abs_eq_natAbs, Int.abs_eq_natAbs]
    omega
  case sign =>
    obtain ha | ha := Int.le_total 0 a
    · exact Int.mul_nonneg (Int.tmod_nonneg b ha) ha
    · have h := Int.tmod_nonneg b (Int.neg_nonneg_of_nonpos ha)
      rw [Int.neg_tmod] at h
      exact Int.mul_nonneg_of_nonpos_of_nonpos (by omega) ha

/-- Every quotient but that of -2^31 by -1 is a signed word. -/
theorem tdiv_range {a b : Int} (ha : -2147483648 ≤ a ∧ a ≤ 2147483647) (hb : b ≠ 0)
    (hov : ¬(a = -2147483648 ∧ b = -1)) : -2147483648 ≤ a.tdiv b ∧ a.tdiv b ≤ 2147483647 := by
  have hq : (a.tdiv b).natAbs = a.natAbs / b.natAbs := Int.natAbs_tdiv a b
  obtain hone | htwo : b.natAbs = 1 ∨ 2 ≤ b.natAbs := by omega
  · obtain rfl | rfl : b = 1 ∨ b = -1 := by omega
    · rw [Int.tdiv_one]
      exact ha
    · rw [Int.tdiv_neg, Int.tdiv_one]
      omega
  · have hhalf : a.natAbs / b.natAbs ≤ a.natAbs / 2 := Nat.div_le_div_left htwo (by decide)
    omega

theorem toInt_range (v : Word) : -2147483648 ≤ v.toInt ∧ v.toInt ≤ 2147483647 := by
  have h := v.isLt
  rw [toInt_eq_of_sign]
  split <;> omega

theorem divideSigned_of_exact {b : Int} {dividend : Word} (hb : b ≠ 0) (hov : ¬(dividend.toInt = -2147483648 ∧ b = -1))
    (form : DivForm) (divisorReg : Word) :
    divideSigned form dividend divisorReg b =
      { quotient := BitVec.ofInt 32 (dividend.toInt.tdiv b), remainder := BitVec.ofInt 32 (dividend.toInt.tmod b)
        ov := false, s := decide (dividend.toInt.tdiv b < 0), z := decide (dividend.toInt.tdiv b = 0) } := by
  have hrange := tdiv_range (toInt_range dividend) hb hov
  have hrem : dividend.toInt - dividend.toInt.tdiv b * b = dividend.toInt.tmod b := by
    rw [Int.tmod_def, Int.mul_comm]
  rw [divideSigned, if_neg hb, if_neg hov, hrem]
  dsimp only
  rw [msb_ofInt_of_range hrange,
    decide_eq_decide.mpr (ofInt_eq_zero_iff_of_range hrange)]

theorem divideSigned_of_overflow {b : Int} {dividend : Word} (hov : dividend.toInt = -2147483648 ∧ b = -1)
    (form : DivForm) (divisorReg : Word) :
    divideSigned form dividend divisorReg b =
      { quotient := 0x80000000#32, remainder := 0#32, ov := true, s := true, z := false } := by
  obtain ⟨ha, rfl⟩ := hov
  rw [divideSigned, if_neg (by decide), if_pos ⟨ha, rfl⟩]

/-! ### The form that stores no remainder -/

theorem regAfter_zero (s : State) (writes : List (RegNum × Word)) : s.regAfter writes 0#5 = 0#32 := by
  induction writes with
  | nil => exact reg_zero s
  | cons p rest ih =>
    obtain ⟨q, v⟩ := p
    rw [State.regAfter, ih]
    split
    case isTrue h => rw [← h, if_pos rfl]
    case isFalse => rfl

/-- DIVH reg1, reg2 is a division whose remainder is lost in r0. -/
theorem exec_divhReg_eq_divided_zero (s : State) (reg1 reg2 : RegNum) :
    exec (.divhReg reg1 reg2) s = s.divided reg2 0#5
      (divideSigned .divhReg (s.reg reg2) (s.reg reg1) (lowHalf (s.reg reg1)).toInt) 2 := rfl

theorem completes_divhReg {s : State} {reg1 reg2 : RegNum} {d : Division}
    (h : divideSigned .divhReg (s.reg reg2) (s.reg reg1) (lowHalf (s.reg reg1)).toInt = d) :
    Completes (.divhReg reg1 reg2) s [(reg2, d.quotient)] [(.ov, d.ov), (.s, d.s), (.z, d.z)] (s.nextPc 2) := by
  subst h
  obtain ⟨t, hexec, hregs, hrest⟩ := completes_divided (exec_divhReg_eq_divided_zero s reg1 reg2)
  refine ⟨t, hexec, fun r => (hregs r).trans ?_, hrest⟩
  by_cases hr : r = 0#5
  · rw [hr, regAfter_zero, regAfter_zero]
  · exact if_neg hr

theorem completes_divided_of_eq {i : Instr} {s : State} {reg2 reg3 : RegNum} {c d : Division}
    (h : exec i s = s.divided reg2 reg3 c 4) (hd : c = d) :
    Completes i s [(reg3, d.remainder), (reg2, d.quotient)] [(.ov, d.ov), (.s, d.s), (.z, d.z)] (s.nextPc 4) :=
  hd ▸ completes_divided h

/-- Settles O41: the quotient is in range but for the one overflow, and DIVH reg1, reg2 loses its remainder in r0. -/
theorem signedDivision : Obligations.SignedDivision := by
  unfold Obligations.SignedDivision
  intro s reg1 reg2 reg3
  refine ⟨fun hb hov => ⟨_, _, tdiv_tmod_spec _ hb, ?div⟩, fun hov => ?divOverflow,
    fun hb hov => ⟨_, _, tdiv_tmod_spec _ hb, ?divhReg3, ?divhReg⟩,
    fun hov => ⟨?divhReg3Overflow, ?divhRegOverflow⟩⟩
  case div => exact completes_divided_of_eq rfl (divideSigned_of_exact hb hov _ _)
  case divOverflow => exact completes_divided_of_eq rfl (divideSigned_of_overflow hov _ _)
  case divhReg3 => exact completes_divided_of_eq rfl (divideSigned_of_exact hb hov _ _)
  case divhReg => exact completes_divhReg (divideSigned_of_exact hb hov _ _)
  case divhReg3Overflow => exact completes_divided_of_eq rfl (divideSigned_of_overflow hov _ _)
  case divhRegOverflow => exact completes_divhReg (divideSigned_of_overflow hov _ _)

/-! ### Unsigned division -/

theorem divideUnsigned_of_ne_zero {b : Nat} (hb : b ≠ 0) (form : DivForm) (dividend divisorReg : Word) :
    divideUnsigned form dividend divisorReg b =
      { quotient := BitVec.ofNat 32 (dividend.toNat / b), remainder := BitVec.ofNat 32 (dividend.toNat % b)
        ov := false, s := decide (dividend.toNat / b ≥ 2 ^ 31), z := decide (dividend.toNat / b = 0) } := by
  have hlt : dividend.toNat / b < 2 ^ 32 := Nat.lt_of_le_of_lt (Nat.div_le_self _ _) dividend.isLt
  have hnat : (BitVec.ofNat 32 (dividend.toNat / b)).toNat = dividend.toNat / b := Nat.mod_eq_of_lt hlt
  have hrem : dividend.toNat - dividend.toNat / b * b = dividend.toNat % b := by
    have h := Nat.div_add_mod' dividend.toNat b
    omega
  have hzero : BitVec.ofNat 32 (dividend.toNat / b) = 0#32 ↔ dividend.toNat / b = 0 := by
    rw [← BitVec.toNat_inj, hnat]
    rfl
  have hmsb : (BitVec.ofNat 32 (dividend.toNat / b)).msb = decide (dividend.toNat / b ≥ 2 ^ 31) := by
    rw [BitVec.msb_eq_decide, hnat]
  rw [divideUnsigned, if_neg hb, hrem]
  dsimp only
  rw [hmsb, decide_eq_decide.mpr hzero]

theorem div_mod_spec (a : Nat) {b : Nat} (hb : b ≠ 0) : a = a / b * b + a % b ∧ a % b < b :=
  ⟨(Nat.div_add_mod' a b).symm, Nat.mod_lt a (Nat.pos_of_ne_zero hb)⟩

/-- Settles O42: the quotient of two words is a word. -/
theorem unsignedDivision : Obligations.UnsignedDivision := by
  unfold Obligations.UnsignedDivision
  refine fun s reg1 reg2 reg3 => ⟨fun hb => ⟨_, _, (div_mod_spec _ hb).1, (div_mod_spec _ hb).2, ?divu⟩,
    fun hb => ⟨_, _, (div_mod_spec _ hb).1, (div_mod_spec _ hb).2, ?divhu⟩⟩
  case divu => exact completes_divided_of_eq rfl (divideUnsigned_of_ne_zero hb _ _ _)
  case divhu => exact completes_divided_of_eq rfl (divideUnsigned_of_ne_zero hb _ _ _)

/-! ### Division by zero -/

theorem ov_divideSigned_zero {form : DivForm} {dividend divisorReg : Word} {b : Int} (hb : b = 0) :
    (divideSigned form dividend divisorReg b).ov = true := by
  rw [divideSigned, if_pos hb]
  rfl

theorem ov_divideUnsigned_zero {form : DivForm} {dividend divisorReg : Word} {b : Nat} (hb : b = 0) :
    (divideUnsigned form dividend divisorReg b).ov = true := by
  rw [divideUnsigned, if_pos hb]
  rfl

/-- A division with OV = 1 and whatever other results. -/
theorem completes_divided_of_ov {i : Instr} {s : State} {reg2 reg3 : RegNum} {d : Division}
    (h : exec i s = s.divided reg2 reg3 d 4) (hov : d.ov = true) :
    ∃ q r n z, Completes i s [(reg3, r), (reg2, q)] [(.ov, true), (.s, n), (.z, z)] (s.nextPc 4) :=
  ⟨d.quotient, d.remainder, d.s, d.z, hov ▸ completes_divided h⟩

theorem completes_divhReg_of_ov {s : State} {reg1 reg2 : RegNum} {d : Division}
    (h : divideSigned .divhReg (s.reg reg2) (s.reg reg1) (lowHalf (s.reg reg1)).toInt = d) (hov : d.ov = true) :
    ∃ q n z, Completes (.divhReg reg1 reg2) s [(reg2, q)] [(.ov, true), (.s, n), (.z, z)] (s.nextPc 2) :=
  ⟨d.quotient, d.s, d.z, hov ▸ completes_divhReg h⟩

/-- Settles O43: every form ends in a division with OV = 1. -/
theorem divisionByZero : Obligations.DivisionByZero := by
  unfold Obligations.DivisionByZero
  refine fun s reg1 reg2 reg3 => ⟨fun h => ?word, fun h => ?half⟩
  case word =>
    have hint : (s.reg reg1).toInt = 0 := by rw [h]; rfl
    have hnat : (s.reg reg1).toNat = 0 := by rw [h]; rfl
    exact ⟨completes_divided_of_ov rfl (ov_divideSigned_zero hint),
      completes_divided_of_ov rfl (ov_divideUnsigned_zero hnat)⟩
  case half =>
    have hint : (lowHalf (s.reg reg1)).toInt = 0 := by rw [lowHalf, h]; rfl
    have hnat : (lowHalf (s.reg reg1)).toNat = 0 := by rw [lowHalf, h]; rfl
    exact ⟨completes_divided_of_ov rfl (ov_divideSigned_zero hint),
      completes_divided_of_ov rfl (ov_divideUnsigned_zero hnat),
      completes_divhReg_of_ov rfl (ov_divideSigned_zero hint)⟩

end Sys2Proof.Machine
end

section
/-! Loads and stores (40_load_store.md), branches (45_branch.md) and bit manipulation (46_bit_manipulation.md). -/

namespace Sys2Proof.Machine

/-! ### Loads and stores -/

/-- Settles O33: each form ends in `State.loaded`. -/
theorem loadForms : Obligations.LoadForms := by
  unfold Obligations.LoadForms
  exact fun s reg1 reg2 disp16 disp4 disp5 disp7 disp8 =>
    ⟨completes_loaded rfl, completes_loaded rfl, completes_loaded rfl, completes_loaded rfl, completes_loaded rfl,
      completes_loaded rfl, completes_loaded rfl, completes_loaded rfl, completes_loaded rfl, completes_loaded rfl⟩

/-- No difference outside the general registers and memory. -/
structure KeptOutside (s t : State) : Prop where
  psw : t.psw = s.psw
  pc : t.pc = s.pc
  sysReg : ∀ r, t.sysReg r = s.sysReg r
  env : EnvKept s t
  acceptPoint : t.acceptPoint = s.acceptPoint

/-- No difference outside memory. -/
structure KeptButMem (s t : State) : Prop extends KeptOutside s t where
  reg : ∀ r, t.reg r = s.reg r

theorem keptButMem_store1 (s : State) (a : Word) (v : Byte) : KeptButMem s (s.store1 a v) := by
  refine ⟨⟨?_, ?_, ?_, ?_, ?_⟩, ?_⟩ <;> simp [EnvKept]

theorem keptButMem_store2 (s : State) (a : Word) (v : Half) : KeptButMem s (s.store2 a v) := by
  refine ⟨⟨?_, ?_, ?_, ?_, ?_⟩, ?_⟩ <;> simp [EnvKept]

theorem keptButMem_store4 (s : State) (a v : Word) : KeptButMem s (s.store4 a v) := by
  refine ⟨⟨?_, ?_, ?_, ?_, ?_⟩, ?_⟩ <;> simp [EnvKept]

/-- An instruction that changes memory and pc. -/
theorem completesStore_of_keptButMem {i : Instr} {s t : State} {a : Word} {bytes : List Byte} {len : Nat}
    (h : exec i s = .next (t.advance len)) (hkept : KeptButMem s t) (hstored : MemStored s t a bytes) :
    CompletesStore i s a bytes [] [] (s.nextPc len) := by
  refine ⟨_, h, fun r => ?reg, ⟨fun b => ?flag, ?pswHigh⟩, ?pc, fun r _ => ?sys, hstored, hkept.env, hkept.acceptPoint⟩
  case reg => exact (reg_advance ..).trans (hkept.reg r)
  case flag => exact (flag_advance ..).trans (flag_of_psw hkept.psw b)
  case pswHigh => rw [advance_psw, hkept.psw]
  case pc => rw [advance_pc, State.nextPc, hkept.pc, State.nextPc]
  case sys => exact (sysReg_advance ..).trans (hkept.sysReg r)

/-- An instruction that changes memory, one flag and pc. -/
theorem completesStore_of_keptButMem_setFlag {i : Instr} {s t : State} {a : Word} {bytes : List Byte} {b : PswBit}
    {v : Bool} {len : Nat} (h : exec i s = .next (t.advance len)) (hkept : KeptButMem (s.setFlag b v) t)
    (hstored : MemStored s t a bytes) : CompletesStore i s a bytes [] [(b, v)] (s.nextPc len) := by
  refine ⟨_, h, fun r => ?reg, ⟨fun c => ?flag, ?pswHigh⟩, ?pc, fun r hr => ?sys, hstored, hkept.env, hkept.acceptPoint⟩
  case reg => exact (reg_advance ..).trans ((hkept.reg r).trans (reg_setFlag ..))
  case flag => exact (flag_advance ..).trans ((flag_of_psw hkept.psw c).trans (flag_setFlag ..))
  case pswHigh => rw [advance_psw, hkept.psw, pswHigh_setFlag]
  case pc => rw [advance_pc, State.nextPc, hkept.pc, setFlag_pc, State.nextPc]
  case sys =>
    exact (sysReg_advance ..).trans ((hkept.sysReg r).trans (sysReg_setFlag _ _ _ _ (List.ne_of_not_mem_cons hr)))

theorem halfBytes_lowHalf (v : Word) : halfBytes (lowHalf v) = (wordBytes v).take 2 := by
  simp [halfBytes, lowHalf, wordBytes]

theorem completesStore_byte {i : Instr} {s : State} {a v : Word} {len : Nat} (hwf : s.mem.wf = true)
    (h : exec i s = .next ((s.store1 a (lowByte v)).advance len)) :
    CompletesStore i s a ((wordBytes v).take 1) [] [] (s.nextPc len) :=
  completesStore_of_keptButMem h (keptButMem_store1 ..) (memStored_store1 s hwf ..)

theorem completesStore_half {i : Instr} {s : State} {a v : Word} {len : Nat} (hwf : s.mem.wf = true)
    (h : exec i s = .next ((s.store2 a (lowHalf v)).advance len)) :
    CompletesStore i s a ((wordBytes v).take 2) [] [] (s.nextPc len) :=
  halfBytes_lowHalf v ▸ completesStore_of_keptButMem h (keptButMem_store2 ..) (memStored_store2 s hwf ..)

theorem completesStore_word {i : Instr} {s : State} {a v : Word} {len : Nat} (hwf : s.mem.wf = true)
    (h : exec i s = .next ((s.store4 a v).advance len)) :
    CompletesStore i s a (wordBytes v) [] [] (s.nextPc len) :=
  completesStore_of_keptButMem h (keptButMem_store4 ..) (memStored_store4 s hwf ..)

/-- Settles O34: each form ends in a store that leaves everything but memory. -/
theorem storeForms : Obligations.StoreForms := by
  unfold Obligations.StoreForms
  exact fun s reg1 reg2 disp16 disp7 disp8 hwf =>
    ⟨completesStore_byte hwf rfl, completesStore_half hwf rfl, completesStore_word hwf rfl,
      completesStore_byte hwf rfl, completesStore_half hwf rfl, completesStore_word hwf rfl⟩

/-! ### Bit manipulation -/

/-- The byte b with bit n replaced by v. -/
def withBit (b : Byte) (n : Nat) (v : Bool) : Byte :=
  BitVec.ofFnLE fun j : Fin 8 => if j.val = n then v else b.getLsbD j.val

theorem getLsbD_withBit {i : Nat} (hi : i < 8) (b : Byte) (n : Nat) (v : Bool) :
    (withBit b n v).getLsbD i = if i = n then v else b.getLsbD i := by
  rw [withBit, BitVec.getLsbD_eq_getElem hi, BitVec.getElem_ofFnLE]

theorem getLsbD_bitMask {i : Nat} (hi : i < 8) (n : Nat) : (bitMask n).getLsbD i = decide (i = n) := by
  rw [bitMask, BitVec.getLsbD_shiftLeft, BitVec.getLsbD_one, decide_eq_true hi, Bool.eq_iff_iff]
  simp only [Bool.true_and, Nat.ofNat_pos, decide_true, Bool.and_eq_true, Bool.not_eq_eq_eq_not, Bool.not_true,
    decide_eq_false_iff_not, not_lt, decide_eq_true_eq]
  omega

theorem setBits_bitMask (b : Byte) (n : Nat) : setBits b (bitMask n) = withBit b n true := by
  refine BitVec.eq_of_getLsbD_eq fun i hi => ?_
  rw [getLsbD_withBit hi, setBits, BitVec.getLsbD_or, getLsbD_bitMask hi]
  by_cases h : i = n <;> simp [h]

theorem clearBits_bitMask (b : Byte) (n : Nat) : clearBits b (bitMask n) = withBit b n false := by
  refine BitVec.eq_of_getLsbD_eq fun i hi => ?_
  rw [getLsbD_withBit hi, clearBits, BitVec.getLsbD_and, BitVec.getLsbD_not, getLsbD_bitMask hi]
  by_cases h : i = n <;> simp [h, hi]

theorem invertBits_bitMask (b : Byte) (n : Nat) : invertBits b (bitMask n) = withBit b n (!b.getLsbD n) := by
  refine BitVec.eq_of_getLsbD_eq fun i hi => ?_
  rw [getLsbD_withBit hi, invertBits, BitVec.getLsbD_xor, getLsbD_bitMask hi]
  by_cases h : i = n <;> simp [h]

theorem completesStore_modifyBit {i : Instr} {s : State} {a : Word} {n : Nat} {change : Byte → Byte → Byte} {v : Bool}
    (hwf : s.mem.wf = true) (h : exec i s = s.modifyBit a n change)
    (hchange : change (s.load1 a) (bitMask n) = withBit (s.load1 a) n v) :
    CompletesStore i s a [withBit (s.load1 a) n v] [] [(.z, !(s.load1 a).getLsbD n)] (s.nextPc 4) :=
  hchange ▸ completesStore_of_keptButMem_setFlag h (keptButMem_store1 ..) (memStored_store1 (s.setBitZ _ _) hwf ..)

/-- Settles O50: the mask of one bit changes that bit only. -/
theorem bitForms : Obligations.BitForms := by
  unfold Obligations.BitForms
  refine fun s reg1 reg2 bit3 disp16 hwf => ⟨?set1Disp, ?set1Reg, ?clr1Disp, ?clr1Reg, ?not1Disp, ?not1Reg⟩
  case set1Disp => exact completesStore_modifyBit hwf rfl (setBits_bitMask ..)
  case set1Reg => exact completesStore_modifyBit hwf rfl (setBits_bitMask ..)
  case clr1Disp => exact completesStore_modifyBit hwf rfl (clearBits_bitMask ..)
  case clr1Reg => exact completesStore_modifyBit hwf rfl (clearBits_bitMask ..)
  case not1Disp => exact completesStore_modifyBit hwf rfl (invertBits_bitMask ..)
  case not1Reg => exact completesStore_modifyBit hwf rfl (invertBits_bitMask ..)

/-- Settles O51: both forms end in `State.testBit`. -/
theorem bitTestForms : Obligations.BitTestForms := by
  unfold Obligations.BitTestForms
  exact fun s reg1 reg2 bit3 disp16 => ⟨completes_testBit rfl, completes_testBit rfl⟩

/-! ### Branches -/

theorem completes_bcond (s : State) (cond : Cond) (disp9 : BitVec 9) :
    Completes (.bcond cond disp9) s [] [] (if s.cond cond then reducePc (s.relative disp9) else s.nextPc 2) := by
  split
  case isTrue h => exact completes_jump (congrArg Host.Outcome.next (if_pos h))
  case isFalse h => exact completes_jump (congrArg Host.Outcome.next (if_neg h))

/-- A jump that leaves a link. -/
theorem completes_link {i : Instr} {s : State} {dest : RegNum} {v target : Word}
    (h : exec i s = .next ((s.setReg dest v).setPc target)) : Completes i s [(dest, v)] [] (reducePc target) := by
  refine ⟨_, h, fun q => ?_, ⟨fun b => ?_, ?_⟩, ?_, fun r _ => ?_, fun a => ?_, ?_, ?_⟩ <;>
    simp [reg_setReg_regAfter, State.flagAfter, EnvKept]

/-- Settles O49: each form ends in a write of pc, JARL after its link. -/
theorem branchForms : Obligations.BranchForms := by
  unfold Obligations.BranchForms
  exact fun s cond reg1 reg2 disp9 disp22 =>
    ⟨completes_bcond s cond disp9, completes_link rfl, completes_jump rfl, completes_jump rfl⟩

end Sys2Proof.Machine
end

section
/-! Returns, interrupt control, system register transfers and table jumps (47_special.md, 48_debug.md section 2). -/

namespace Sys2Proof.Machine

/-! ### Returns -/

theorem returns_returnFrom (s : State) (pcReg pswReg : SysReg) :
    Returns s (s.returnFrom pcReg pswReg) pcReg pswReg [] := by
  refine ⟨rfl, ?psw, fun r hr => ?sys, fun r => ?reg, fun a => ?mem, ?env, ?acceptPoint⟩
  case psw => exact psw_setSysReg ..
  case sys =>
    exact (sysReg_setPc ..).trans ((sysReg_setSysReg ..).trans (if_neg (List.ne_of_not_mem_cons hr)))
  all_goals simp [State.returnFrom, State.regAfter, EnvKept]

/-- A system register other than PSW, written after a return. -/
theorem returns_setSysReg {s t : State} {pcReg pswReg : SysReg} (h : Returns s t pcReg pswReg []) {r : SysReg}
    (hr : r ≠ .psw) (v : Word) : Returns s (t.setSysReg r v) pcReg pswReg [r] := by
  obtain ⟨hpc, hpsw, hsys, hreg, hmem, henv, haccept⟩ := h
  refine ⟨?_, ?psw, fun q hq => ?sys, fun q => ?_, fun a => ?_, ?_, ?_⟩
  case psw => rw [psw_setSysReg, if_neg hr, hpsw]
  case sys =>
    simp only [List.mem_cons, List.not_mem_nil, or_false, not_or] at hq
    obtain ⟨hqpsw, hqr⟩ := hq
    rw [sysReg_setSysReg, if_neg hqr, hsys q (by simpa using hqpsw)]
  · rw [setSysReg_pc, hpc]
  · rw [reg_setSysReg, hreg]
  · rw [setSysReg_mem, hmem]
  · simpa [EnvKept] using henv
  · rw [setSysReg_acceptPoint, haccept]

theorem exec_reti (s : State) : exec .reti s =
    .next (if !s.flag .ep && s.flag .np then s.returnFrom .fepc .fepsw else s.returnFrom .eipc .eipsw) := rfl

/-- Settles O54: each form is a return, DBRET with DIR cleared after it. -/
theorem returnForms : Obligations.ReturnForms := by
  unfold Obligations.ReturnForms
  refine fun s => ⟨⟨_, exec_reti s, ?reti⟩, ⟨_, rfl, returns_returnFrom s .ctpc .ctpsw⟩,
    ⟨_, rfl, returns_setSysReg (returns_returnFrom s .dbpc .dbpsw) (by decide) 0#32, rfl⟩⟩
  case reti =>
    have hcond : (!s.flag .ep && s.flag .np) = true ↔ s.flag .ep = false ∧ s.flag .np = true := by simp
    by_cases h : s.flag .ep = false ∧ s.flag .np = true
    · rw [if_pos h, if_pos (hcond.mpr h)]
      exact returns_returnFrom ..
    · rw [if_neg h, if_neg (mt hcond.mp h)]
      exact returns_returnFrom ..

/-! ### Interrupt control -/

/-- DI and EI: one flag and pc, and no acceptance point. -/
theorem interruptControl_setFlag {i : Instr} {s : State} {b : PswBit} {v : Bool}
    (h : exec i s = .next ((s.setFlag b v).advance 4).withoutSampling) :
    ∃ t, exec i s = .next t ∧ (RegsAre s t [] ∧ FlagsAre s t [(b, v)] ∧ t.pc = s.nextPc 4 ∧ SysKept [.psw] s t ∧
      MemKept s t) ∧ EnvKept s t ∧ t.acceptPoint = false := by
  refine ⟨_, h, ⟨fun r => ?_, ⟨fun c => ?flag, ?_⟩, ?_, fun r hr => ?sys, fun a => ?_⟩, ?_, rfl⟩
  case flag => simp [flag_setFlag, State.flagAfter]
  case sys =>
    rw [sysReg_withoutSampling, sysReg_advance, sysReg_setFlag _ _ _ _ (List.ne_of_not_mem_cons hr)]
  all_goals simp [State.regAfter, advance_pc, State.nextPc, EnvKept]

/-- Settles O55: DI and EI write one flag, HALT none. -/
theorem interruptControlForms : Obligations.InterruptControlForms := by
  unfold Obligations.InterruptControlForms
  refine fun s => ⟨interruptControl_setFlag rfl, interruptControl_setFlag rfl, _, rfl, ?halt⟩
  case halt =>
    refine ⟨⟨fun r => ?_, ⟨fun c => ?_, rfl⟩, rfl, fun r _ => ?_, fun a => rfl⟩, rfl, rfl, rfl, rfl, rfl, rfl, rfl⟩ <;>
      simp [State.regAfter, State.flagAfter]

/-! ### System register transfers -/

/-- The state after LDSR to a register (47_special.md R394, R389). -/
def State.afterLdsr (s : State) (r : SysReg) (v : Word) : State :=
  { (s.setSysReg r v).advance 4 with acceptPoint := s.acceptPoint && decide (r ≠ .psw) }

theorem exec_ldsr_of_ofNumber {n : BitVec 5} {r : SysReg} (h : SysReg.ofNumber n = some r)
    (hallowed : r.ldsrAllowed = true) (s : State) (reg2 : RegNum) :
    exec (.ldsr reg2 n) s = .next (s.afterLdsr r (s.reg reg2)) := by
  show execLdsr reg2 n s = _
  rw [execLdsr, h]
  simp only [hallowed, if_true, State.afterLdsr]
  by_cases hr : r = .psw
  · simp [hr, State.withoutSampling]
  · rw [if_neg hr, decide_eq_true hr, Bool.and_true, ← setSysReg_acceptPoint s r (s.reg reg2)]
    rfl

@[simp] theorem sysReg_afterLdsr (s : State) (r q : SysReg) (v : Word) :
    (s.afterLdsr r v).sysReg q = if q = r then v &&& r.storedBits else s.sysReg q :=
  (sysReg_advance (s.setSysReg r v) 4 q).trans (sysReg_setSysReg ..)

/-- LDSR writes the one register; its other effects are those of every instruction's end. -/
theorem afterLdsr_frame (s : State) (r : SysReg) (v : Word) :
    (s.afterLdsr r v).pc = s.nextPc 4 ∧ RegsAre s (s.afterLdsr r v) [] ∧ MemKept s (s.afterLdsr r v) ∧
      EnvKept s (s.afterLdsr r v) := by
  refine ⟨?pc, fun q => ?reg, fun a => ?mem, ?env⟩
  case pc =>
    show reducePc ((s.setSysReg r v).pc + 4#32) = _
    rw [setSysReg_pc]
    rfl
  case reg => exact reg_of_gr (setSysReg_gr ..) q
  case mem => exact congrArg (·.read a) (setSysReg_mem s r v)
  case env => simp [EnvKept, State.afterLdsr]

theorem exec_stsr_of_ofNumber {n : BitVec 5} {r : SysReg} (h : SysReg.ofNumber n = some r) (s : State) (reg2 : RegNum) :
    exec (.stsr n reg2) s = s.move reg2 (s.sysReg r) 4 := by
  show execStsr n reg2 s = _
  simp [execStsr, h, State.move]

/-- The table of the registers that LDSR may write is that of the model. -/
theorem ofNumber_of_mem_sysRegTable : ∀ p ∈ sysRegTable,
    SysReg.ofNumber p.1 = some p.2.1 ∧ p.2.1.ldsrAllowed = true ∧ p.2.1.storedBits = p.2.2 := by
  decide

theorem ofNumber_of_mem_readable :
    ∀ p ∈ sysRegTable.map (fun p => (p.1, p.2.1)) ++ [((4 : BitVec 5), SysReg.ecr), (21, .dir)],
      SysReg.ofNumber p.1 = some p.2 := by
  decide

/-- Settles O56: the table of R38 is that of the model, so each number names its register. -/
theorem systemRegisterTransfers : Obligations.SystemRegisterTransfers := by
  unfold Obligations.SystemRegisterTransfers
  refine fun s reg2 => ⟨fun p hp => ?ldsr, fun p hp => ?stsr⟩
  case stsr => exact completes_move (exec_stsr_of_ofNumber (ofNumber_of_mem_readable p hp) s reg2)
  case ldsr =>
    obtain ⟨hnumber, hallowed, hbits⟩ := ofNumber_of_mem_sysRegTable p hp
    obtain ⟨hpc, hreg, hmem, henv⟩ := afterLdsr_frame s p.2.1 (s.reg reg2)
    refine ⟨_, exec_ldsr_of_ofNumber hnumber hallowed s reg2, ?written, fun q hq => ?kept, hpc, hreg, hmem, henv, rfl⟩
    case written => rw [sysReg_afterLdsr, if_pos rfl, hbits]
    case kept => rw [sysReg_afterLdsr, if_neg (List.ne_of_not_mem_cons hq)]

/-! ### Table jumps -/

theorem shiftLeft_one_eq_two_mul (v : Word) : v <<< 1 = 2#32 * v := by
  apply BitVec.eq_of_toNat_eq
  rw [BitVec.toNat_shiftLeft, BitVec.toNat_mul, Nat.shiftLeft_eq, Nat.mul_comm]
  rfl

theorem tableOffset_eq (imm6 : BitVec 6) : (zext imm6 : Word) <<< 1 = BitVec.ofNat 32 (2 * imm6.toNat) := by
  apply BitVec.eq_of_toNat_eq
  rw [BitVec.toNat_shiftLeft, BitVec.toNat_ofNat, Nat.shiftLeft_eq, zext, BitVec.toNat_setWidth_of_le (by decide),
    Nat.mul_comm]

/-- Settles O57: the state after each is the one named, with the table entry read from the state before. -/
theorem tableJumpForms : Obligations.TableJumpForms := by
  unfold Obligations.TableJumpForms
  intro s imm6 reg1
  rw [← tableOffset_eq, ← shiftLeft_one_eq_two_mul, ← shiftLeft_one_eq_two_mul]
  refine ⟨⟨_, rfl, ?ctpc, rfl, rfl, fun r hr => ?sys, fun r => ?_, fun a => ?_, ?_, ?_⟩, completes_jump rfl⟩
  case ctpc => exact and_storedBits_of_isPc (isPc_reducePc _)
  case sys =>
    simp only [List.mem_cons, List.not_mem_nil, or_false, not_or] at hr
    obtain ⟨hctpc, hctpsw⟩ := hr
    simp [sysReg_setSysReg, hctpc, hctpsw]
  all_goals simp [State.regAfter, EnvKept]

end Sys2Proof.Machine
end

section
/-! PREPARE and DISPOSE (47_special.md section 6): the loops over the register list by induction on the list, and the
round trip of R408. -/

namespace Sys2Proof.Machine

/-! ### The stack addresses -/

theorem toNat_align4 (a : Word) : (align4 a).toNat = a.toNat / 4 * 4 := by
  have hshift : align4 a = a >>> 2 <<< 2 := by
    rw [BitVec.shiftLeft_ushiftRight]
    rfl
  have ha := a.isLt
  rw [hshift, BitVec.toNat_shiftLeft, BitVec.toNat_ushiftRight, Nat.shiftLeft_eq, Nat.shiftRight_eq_div_pow]
  omega

/-- The four bytes of a word on the stack do not cross a word boundary. -/
theorem toNat_pushAddress (t : Word) (k : Nat) {j : Nat} (hj : j < 4) :
    (pushAddress t k j).toNat = (t - BitVec.ofNat 32 (4 * (k + 1))).toNat / 4 * 4 + j := by
  have h := toNat_align4 (t - BitVec.ofNat 32 (4 * (k + 1)))
  have hlt := (t - BitVec.ofNat 32 (4 * (k + 1))).isLt
  rw [align4] at h
  rw [pushAddress, BitVec.toNat_add, h, BitVec.toNat_ofNat]
  omega

/-- Different bytes of a stack of less than 2^30 words have different addresses. -/
theorem pushAddress_ne {t : Word} {k k' j j' : Nat} (hk : k < 2 ^ 30) (hk' : k' < 2 ^ 30) (hj : j < 4) (hj' : j' < 4)
    (hne : k ≠ k') : (pushAddress t k j).toNat ≠ (pushAddress t k' j').toNat := by
  rw [toNat_pushAddress t k hj, toNat_pushAddress t k' hj', BitVec.toNat_sub, BitVec.toNat_sub, BitVec.toNat_ofNat,
    BitVec.toNat_ofNat]
  have ht := t.isLt
  omega

theorem pushAddress_succ (t : Word) (k j : Nat) : pushAddress (t - 4#32) k j = pushAddress t (k + 1) j := by
  have h : t - 4#32 - BitVec.ofNat 32 (4 * (k + 1)) = t - BitVec.ofNat 32 (4 * (k + 1 + 1)) := by
    rw [BitVec.sub_sub, Nat.mul_add 4 (k + 1) 1, BitVec.ofNat_add, BitVec.add_comm]
  rw [pushAddress, pushAddress, h]

/-! ### The stores of PREPARE -/

/-- `Pushed` from a stack address t. -/
def PushedFrom (s u : State) (t : Word) (regs : List RegNum) : Prop :=
  (∀ k (h : k < regs.length), ∀ j, j < 4 →
    u.mem.read (pushAddress t k j).toNat =
      if s.inRam (pushAddress t k j) then (s.reg regs[k]).extractLsb' (8 * j) 8
      else s.mem.read (pushAddress t k j).toNat) ∧
  ∀ b : Nat, (∀ k, k < regs.length → ∀ j, j < 4 → b ≠ (pushAddress t k j).toNat) → u.mem.read b = s.mem.read b

theorem wordBytes_getElem (v : Word) {j : Nat} (hj : j < 4) : (wordBytes v)[j]'hj = v.extractLsb' (8 * j) 8 := by
  interval_cases j <;> rfl

theorem pushedFrom_pushRegs {s : State} (hwf : s.mem.wf = true) (t : Word) {regs : List RegNum}
    (hlen : regs.length < 2 ^ 30) : PushedFrom s (s.pushRegs t regs) t regs := by
  induction regs generalizing s t with
  | nil => exact ⟨fun k h => absurd h (Nat.not_lt_zero k), fun b _ => rfl⟩
  | cons r rest ih =>
    rw [List.length_cons] at hlen
    obtain ⟨hword, hother⟩ := memStored_store4 s hwf (align4 (t - 4#32)) (s.reg r)
    obtain ⟨hrest, hkept⟩ := ih (wf_store4 s hwf (align4 (t - 4#32)) (s.reg r)) (t - 4#32) (by omega)
    simp only [pushAddress_succ, inRam_store4, reg_store4] at hrest hkept
    rw [State.pushRegs]
    refine ⟨fun k h j hj => ?stored, fun b hb => ?kept⟩
    case stored =>
      cases k with
      | zero =>
        rw [hkept _ fun k hk j' hj' => pushAddress_ne (by decide) (by omega) hj hj' (by omega)]
        exact (hword j hj).trans (by rw [wordBytes_getElem _ hj]; rfl)
      | succ k =>
        rw [List.length_cons] at h
        rw [hrest k (by omega) j hj, hother _ fun j' hj' => pushAddress_ne (k' := 0) (by omega)
          (by decide) hj hj' (by omega)]
        rfl
    case kept =>
      rw [hkept b fun k hk j hj => hb (k + 1) (by simpa using hk) j hj, hother b fun j hj => hb 0 (by simp) j hj]

theorem keptOutside_pushRegs (s : State) (t : Word) (regs : List RegNum) : KeptOutside s (s.pushRegs t regs) := by
  refine ⟨?_, ?_, fun r => ?sys, ?_, ?_⟩
  case sys => cases r <;> simp [State.sysReg]
  all_goals simp [EnvKept]

theorem keptOutside_setReg {s t : State} (h : KeptOutside s t) (r : RegNum) (v : Word) :
    KeptOutside s (t.setReg r v) := by
  obtain ⟨hpsw, hpc, hsys, henv, haccept⟩ := h
  exact ⟨by simp [hpsw], by simp [hpc], fun r => by simp [hsys], by simpa [EnvKept] using henv, by simp [haccept]⟩

theorem regsAre_setReg {s t : State} {writes : List (RegNum × Word)} (h : RegsAre s t writes) (r : RegNum) (v : Word) :
    RegsAre s (t.setReg r v) ((r, v) :: writes) := by
  intro q
  rw [reg_setReg, State.regAfter, h q]

theorem frameSize_eq_ofNat (imm5 : BitVec 5) : frameSize imm5 = BitVec.ofNat 32 (4 * imm5.toNat) := by
  apply BitVec.eq_of_toNat_eq
  rw [frameSize, BitVec.toNat_shiftLeft, BitVec.toNat_ofNat, Nat.shiftLeft_eq, zext,
    BitVec.toNat_setWidth_of_le (by decide), Nat.mul_comm]

theorem preparedSp_eq (s : State) (list12 : RegList) (imm5 : BitVec 5) :
    s.preparedSp list12 imm5 = s.reg 3#5 - BitVec.ofNat 32 (4 * (listedRegs list12).length + 4 * imm5.toNat) := by
  rw [State.preparedSp, listBytes, frameSize_eq_ofNat, BitVec.ofNat_add, BitVec.sub_sub]
  rfl

theorem regsAre_prepareFrame (s : State) (list12 : RegList) (imm5 : BitVec 5) :
    RegsAre s (s.prepareFrame list12 imm5)
      [(3, s.reg 3 - BitVec.ofNat 32 (4 * (listedRegs list12).length + 4 * imm5.toNat))] := by
  rw [State.prepareFrame, preparedSp_eq]
  exact regsAre_setReg (fun r => reg_of_gr (pushRegs_gr ..) r) 3#5 _

theorem keptOutside_prepareFrame (s : State) (list12 : RegList) (imm5 : BitVec 5) :
    KeptOutside s (s.prepareFrame list12 imm5) :=
  keptOutside_setReg (keptOutside_pushRegs s _ _) _ _

theorem mem_prepareFrame (s : State) (list12 : RegList) (imm5 : BitVec 5) :
    (s.prepareFrame list12 imm5).mem = (s.pushRegs (s.reg 3#5) (listedRegs list12)).mem := setReg_mem ..

theorem length_listedRegs_le (list12 : RegList) : (listedRegs list12).length ≤ 12 := List.length_filter_le ..

/-- An instruction that changes registers, the stack words of PREPARE and pc. -/
theorem completesPrepare {i : Instr} {s t : State} {list12 : RegList} {regs : List (RegNum × Word)} {len : Nat}
    (hwf : s.mem.wf = true) (h : exec i s = .next (t.advance len))
    (hmem : t.mem = (s.pushRegs (s.reg 3#5) (listedRegs list12)).mem) (hregs : RegsAre s t regs)
    (hkept : KeptOutside s t) : CompletesPrepare i s list12 regs (s.nextPc len) := by
  have hpushed := pushedFrom_pushRegs hwf (s.reg 3#5) (regs := listedRegs list12)
    (Nat.lt_of_le_of_lt (length_listedRegs_le list12) (by decide))
  rw [PushedFrom, ← hmem] at hpushed
  refine ⟨_, h, hpushed, fun r => ?reg, ⟨fun b => ?flag, ?pswHigh⟩, ?pc, fun r _ => ?sys, hkept.env, hkept.acceptPoint⟩
  case reg => exact (reg_advance ..).trans (hregs r)
  case flag => exact (flag_advance ..).trans (flag_of_psw hkept.psw b)
  case pswHigh => rw [advance_psw, hkept.psw]
  case pc => rw [advance_pc, State.nextPc, hkept.pc, State.nextPc]
  case sys => exact (sysReg_advance ..).trans (hkept.sysReg r)

/-- The forms of PREPARE that write ep after the frame. -/
theorem completesPrepare_ep {i : Instr} {s : State} {list12 : RegList} {imm5 : BitVec 5} {v : Word} {len : Nat}
    (hwf : s.mem.wf = true) (h : exec i s = .next (((s.prepareFrame list12 imm5).setReg epNum v).advance len)) :
    CompletesPrepare i s list12
      [(30, v), (3, s.reg 3 - BitVec.ofNat 32 (4 * (listedRegs list12).length + 4 * imm5.toNat))] (s.nextPc len) :=
  completesPrepare hwf h ((setReg_mem ..).trans (mem_prepareFrame s list12 imm5))
    (regsAre_setReg (regsAre_prepareFrame s list12 imm5) _ _)
    (keptOutside_setReg (keptOutside_prepareFrame s list12 imm5) _ _)

theorem zext_shiftLeft_sixteen (imm16 : Half) : (zext imm16 : Word) <<< 16 = BitVec.ofNat 32 (65536 * imm16.toNat) := by
  apply BitVec.eq_of_toNat_eq
  rw [BitVec.toNat_shiftLeft, BitVec.toNat_ofNat, Nat.shiftLeft_eq, zext, BitVec.toNat_setWidth_of_le (by decide),
    Nat.mul_comm]

theorem completesPrepare_plain {s : State} (hwf : s.mem.wf = true) (list12 : RegList) (imm5 : BitVec 5) :
    CompletesPrepare (.prepare list12 imm5) s list12
      [(3, s.reg 3 - BitVec.ofNat 32 (4 * (listedRegs list12).length + 4 * imm5.toNat))] (s.nextPc 4) :=
  completesPrepare hwf rfl (mem_prepareFrame s list12 imm5) (regsAre_prepareFrame s list12 imm5)
    (keptOutside_prepareFrame s list12 imm5)

/-- Settles O58: each form ends in the frame of PREPARE, but for ep. -/
theorem prepareForms : Obligations.PrepareForms := by
  unfold Obligations.PrepareForms
  refine fun s list12 imm5 imm16 imm32 hwf => ⟨completesPrepare_plain hwf list12 imm5, ?sp, completesPrepare_ep hwf rfl,
    ?hi16, completesPrepare_ep hwf rfl⟩
  case sp =>
    have h := completesPrepare_ep (i := .prepareSp list12 imm5) (v := s.preparedSp list12 imm5) hwf rfl
    rwa [preparedSp_eq] at h
  case hi16 => exact completesPrepare_ep hwf (by rw [← zext_shiftLeft_sixteen]; rfl)

/-! ### The loads of DISPOSE -/

theorem load4_of_mem {s t : State} (hmem : t.mem = s.mem) (hproduct : t.product = s.product)
    (hareas : t.hostAreas = s.hostAreas) (htick : t.tick = s.tick) (a : Word) : t.load4 a = s.load4 a := by
  simp [State.load4, State.byteAt, State.inHostArea, target_of_map hproduct hareas, hmem, htick]

theorem reg_popRegs_of_not_mem {s : State} {t : Word} {regs : List RegNum} {r : RegNum} (h : r ∉ regs) :
    (s.popRegs t regs).reg r = s.reg r := by
  induction regs generalizing s t with
  | nil => rfl
  | cons q rest ih =>
    obtain ⟨hq, hrest⟩ : r ≠ q ∧ r ∉ rest := by simpa using h
    rw [State.popRegs, ih hrest, reg_setReg, if_neg hq]

theorem reg_popRegs {s : State} {t : Word} {regs : List RegNum} (hnodup : regs.Nodup) (hzero : 0#5 ∉ regs) {k : Nat}
    (hk : k < regs.length) : (s.popRegs t regs).reg regs[k] = s.load4 (align4 (t + BitVec.ofNat 32 (4 * k))) := by
  induction regs generalizing s t k with
  | nil => exact absurd hk (Nat.not_lt_zero k)
  | cons q rest ih =>
    obtain ⟨hq, hnodup⟩ := List.nodup_cons.mp hnodup
    obtain ⟨hq0, hzero⟩ : 0#5 ≠ q ∧ 0#5 ∉ rest := by simpa using hzero
    rw [State.popRegs]
    cases k with
    | zero =>
      rw [List.getElem_cons_zero, reg_popRegs_of_not_mem hq, reg_setReg, if_pos rfl, if_neg (Ne.symm hq0), Nat.mul_zero,
        BitVec.add_zero]
    | succ k =>
      have haddr : t + 4#32 + BitVec.ofNat 32 (4 * k) = t + BitVec.ofNat 32 (4 * (k + 1)) := by
        rw [Nat.mul_add 4 k 1, BitVec.ofNat_add, BitVec.add_assoc, BitVec.add_comm 4#32]
      rw [List.getElem_cons_succ, ih hnodup hzero (by simpa using hk), haddr]
      exact load4_of_mem (by simp) (by simp) (by simp) (by simp) _

/-- The list of PREPARE and DISPOSE names registers from r20 on. -/
theorem toNat_of_mem_listedRegs {list12 : RegList} {r : RegNum} (h : r ∈ listedRegs list12) : 20 ≤ r.toNat := by
  have hmem := List.mem_of_mem_filter h
  simp only [List.mem_cons, List.not_mem_nil, or_false] at hmem
  bv_omega

theorem nodup_listedRegs (list12 : RegList) : (listedRegs list12).Nodup :=
  (listedRegs_pairwise list12).imp fun h => BitVec.ne_of_lt h

theorem popped_disposeFrame (s : State) (imm5 : BitVec 5) (list12 : RegList) :
    Popped s (s.disposeFrame imm5 list12) (s.reg 3 + BitVec.ofNat 32 (4 * imm5.toNat)) list12 := by
  rw [State.disposeFrame, frameSize_eq_ofNat]
  refine ⟨fun k hk => ?loaded, ?sp, fun r hsp hr => ?kept⟩
  case loaded =>
    have hmem : (listedRegs list12).reverse[k] ∈ listedRegs list12 := List.mem_reverse.mp (List.getElem_mem hk)
    have h20 := toNat_of_mem_listedRegs hmem
    have hnotSp : (listedRegs list12).reverse[k] ≠ spNum := fun h => by
      rw [h] at h20
      exact absurd h20 (by decide)
    rw [reg_setReg, if_neg hnotSp]
    refine reg_popRegs (List.nodup_reverse.mpr (nodup_listedRegs list12)) (fun h0 => ?_) hk
    exact absurd (toNat_of_mem_listedRegs (List.mem_reverse.mp h0)) (by decide)
  case sp => exact (reg_setReg ..).trans (if_pos rfl)
  case kept =>
    rw [reg_setReg, if_neg (show r ≠ spNum from hsp)]
    exact reg_popRegs_of_not_mem fun h => hr (List.mem_reverse.mp h)

theorem keptOutside_disposeFrame (s : State) (imm5 : BitVec 5) (list12 : RegList) :
    KeptOutside s (s.disposeFrame imm5 list12) := by
  refine keptOutside_setReg ⟨?_, ?_, fun r => ?sys, ?_, ?_⟩ _ _
  case sys => cases r <;> simp [State.sysReg]
  all_goals simp [EnvKept]

theorem mem_disposeFrame (s : State) (imm5 : BitVec 5) (list12 : RegList) :
    (s.disposeFrame imm5 list12).mem = s.mem := by
  simp [State.disposeFrame]

/-- The frame of DISPOSE and a new pc. -/
theorem disposed_setPc (s : State) (imm5 : BitVec 5) (list12 : RegList) (target : Word) :
    let t := (s.disposeFrame imm5 list12).setPc target
    Popped s t (s.reg 3 + BitVec.ofNat 32 (4 * imm5.toNat)) list12 ∧ FlagsAre s t [] ∧ SysKept [] s t ∧ MemKept s t ∧
      EnvKept s t ∧ t.acceptPoint = s.acceptPoint := by
  have hkept := keptOutside_disposeFrame s imm5 list12
  refine ⟨popped_disposeFrame s imm5 list12, ⟨fun b => ?flag, ?pswHigh⟩, fun r _ => ?sys, fun a => ?mem, hkept.env,
    hkept.acceptPoint⟩
  case flag => exact (flag_setPc ..).trans (flag_of_psw hkept.psw b)
  case pswHigh => rw [setPc_psw, hkept.psw]
  case sys => exact (sysReg_setPc ..).trans (hkept.sysReg r)
  case mem => rw [setPc_mem, mem_disposeFrame]

/-- Settles O59: both forms end in the frame of DISPOSE, but for pc. -/
theorem disposeForms : Obligations.DisposeForms := by
  unfold Obligations.DisposeForms
  refine fun s imm5 list12 reg1 => ⟨?next, ?jump⟩
  case next =>
    obtain ⟨hpopped, hrest⟩ := disposed_setPc s imm5 list12 ((s.disposeFrame imm5 list12).pc + 4#32)
    refine ⟨_, rfl, hpopped, ?_, hrest⟩
    rw [advance_pc, State.nextPc, (keptOutside_disposeFrame s imm5 list12).pc, State.nextPc]
  case jump =>
    obtain ⟨hpopped, hrest⟩ := disposed_setPc s imm5 list12 ((s.disposeFrame imm5 list12).reg reg1)
    exact ⟨_, rfl, hpopped, rfl, hrest⟩

/-! ### The round trip -/

/-- A word of PREPARE in RAM is read back from the address that DISPOSE computes for it. -/
theorem load4_of_pushed {s t : State} {regs : List RegNum} (hpushed : Pushed s t regs) (henv : EnvKept s t) {k : Nat}
    (hk : k < regs.length) (hram : ∀ j, j < 4 → s.inRam (pushAddress (s.reg 3#5) k j) = true) :
    t.load4 ((s.reg 3#5 - BitVec.ofNat 32 (4 * (k + 1))) &&& 0xFFFFFFFC#32) = s.reg regs[k] := by
  obtain ⟨hstored, -⟩ := hpushed
  obtain ⟨-, -, -, hproduct, hareas, -⟩ := henv
  have hbyte (j : Nat) (hj : j < 4) :
      t.byteAt (pushAddress (s.reg 3#5) k j) = (s.reg regs[k]).extractLsb' (8 * j) 8 := by
    have ht : t.inRam (pushAddress (s.reg 3#5) k j) = true := by
      rw [State.inRam, target_of_map hproduct hareas]
      exact hram j hj
    rw [byteAt_memory (inHostArea_of_inRam ht), hstored k hk j hj, if_pos (hram j hj)]
  have h0 := hbyte 0 (by decide)
  have h1 := hbyte 1 (by decide)
  have h2 := hbyte 2 (by decide)
  have h3 := hbyte 3 (by decide)
  simp only [pushAddress, BitVec.add_zero] at h0 h1 h2 h3
  rw [State.load4, h0, h1, h2, h3]
  simp

/-- The stack address after k of the n words below sp and the m bytes below them, from the bottom. -/
theorem frame_address_eq (sp : Word) (m : Nat) {n k : Nat} (hk : k ≤ n) :
    sp - BitVec.ofNat 32 (4 * n + m) + BitVec.ofNat 32 m + BitVec.ofNat 32 (4 * k) =
      sp - BitVec.ofNat 32 (4 * (n - k)) := by
  have h : 4 * n + m = 4 * (n - k) + (m + 4 * k) := by omega
  rw [h, BitVec.ofNat_add, BitVec.ofNat_add, BitVec.add_assoc, ← BitVec.sub_sub, BitVec.sub_add_cancel]

/-- Settles O60: the k-th word from the bottom of the frame is the one that PREPARE stored for the same register. -/
theorem disposeUndoesPrepare : Obligations.DisposeUndoesPrepare := by
  unfold Obligations.DisposeUndoesPrepare
  intro s t u list12 imm5 hwf hram hprepare hdispose r
  obtain ⟨t', ht, hpushed, hregs, -, -, -, henv, -⟩ := completesPrepare_plain hwf list12 imm5
  obtain rfl : t' = t := Host.Outcome.next.inj (ht.symm.trans hprepare)
  have hpopped : Popped t' u (t'.reg 3#5 + BitVec.ofNat 32 (4 * imm5.toNat)) list12 := by
    obtain rfl := Host.Outcome.next.inj hdispose
    exact popped_disposeFrame t' imm5 list12
  have hsp : t'.reg 3#5 = s.reg 3#5 - BitVec.ofNat 32 (4 * (listedRegs list12).length + 4 * imm5.toNat) := hregs 3#5
  rw [hsp] at hpopped
  obtain ⟨hloaded, hspAfter, hkept⟩ := hpopped
  by_cases hr3 : r = 3#5
  · rw [hr3, hspAfter, frame_address_eq _ _ le_rfl, Nat.sub_self, Nat.mul_zero, BitVec.sub_zero]
  by_cases hmem : r ∈ listedRegs list12
  · obtain ⟨k, hk, rfl⟩ := List.getElem_of_mem (List.mem_reverse.mpr hmem)
    have hlen : k < (listedRegs list12).length := by simpa using hk
    have htop : (listedRegs list12).length - k = (listedRegs list12).length - 1 - k + 1 := by omega
    have h12 := length_listedRegs_le list12
    rw [hloaded k hk, frame_address_eq _ _ hlen.le, htop, List.getElem_reverse]
    exact load4_of_pushed hpushed henv _ fun j hj => hram _ (by omega) j hj
  · rw [hkept r hr3 hmem, hregs r]
    exact if_neg hr3

end Sys2Proof.Machine
end

section
/-! The rules over all instructions: which operands complete, and what an instruction leaves unchanged (10_state.md R54,
20_memory.md section 7, 47_special.md R380). One frame rule per operation of the state, then the instructions by the
ends they share. -/

namespace Sys2Proof.Machine

/-! ### Completion -/

theorem ofNumber_of_not_reserved : ∀ n : BitVec 5, ¬((6 ≤ n.toNat ∧ n.toNat ≤ 15) ∨ 22 ≤ n.toNat) →
    (SysReg.ofNumber n).isSome = true := by
  decide

theorem ofNumber_of_reserved : ∀ n : BitVec 5, (6 ≤ n.toNat ∧ n.toNat ≤ 15) ∨ 22 ≤ n.toNat →
    SysReg.ofNumber n = none := by
  decide

theorem ldsrAllowed_of_ofNumber : ∀ n : BitVec 5, ¬(n.toNat = 4 ∨ n.toNat = 21) → ∀ r ∈ SysReg.ofNumber n,
    r.ldsrAllowed = true := by
  decide

theorem ofNumber_of_write_prohibited : ∀ n : BitVec 5, n.toNat = 4 ∨ n.toNat = 21 →
    ∃ r ∈ SysReg.ofNumber n, r.ldsrAllowed = false := by
  decide

/-- Settles O26: only MUL, MULU, LDSR and STSR can be refused. -/
theorem everyInstructionCompletes : Obligations.EveryInstructionCompletes := by
  unfold Obligations.EveryInstructionCompletes
  intro i s h
  cases i
  case mulReg reg1 reg2 reg3 => exact ⟨_, if_neg (mt (multiplyNotGuaranteed_iff reg1 reg2 reg3).mp h)⟩
  case muluReg reg1 reg2 reg3 => exact ⟨_, if_neg (mt (multiplyNotGuaranteed_iff reg1 reg2 reg3).mp h)⟩
  case ldsr reg2 n =>
    simp only [notGuaranteed, not_or] at h
    obtain ⟨h4, h21, hlow, hhigh⟩ := h
    obtain ⟨r, hr⟩ := Option.isSome_iff_exists.mp (ofNumber_of_not_reserved n (not_or.mpr ⟨hlow, hhigh⟩))
    exact ⟨_, exec_ldsr_of_ofNumber hr (ldsrAllowed_of_ofNumber n (not_or.mpr ⟨h4, h21⟩) r hr) s reg2⟩
  case stsr n reg2 =>
    obtain ⟨r, hr⟩ := Option.isSome_iff_exists.mp (ofNumber_of_not_reserved n h)
    exact ⟨_, exec_stsr_of_ofNumber hr s reg2⟩
  all_goals exact ⟨_, rfl⟩

/-- Settles O27: the tests that refuse hold for these operands. -/
theorem notGuaranteedRefused : Obligations.NotGuaranteedRefused := by
  unfold Obligations.NotGuaranteedRefused
  refine fun s => ⟨fun reg2 n hn => ⟨?ldsr, ?stsr⟩, fun reg2 n hn => ?prohibited, fun reg1 reg2 reg3 h => ?multiply⟩
  case ldsr =>
    show execLdsr reg2 n s = _
    rw [execLdsr, ofNumber_of_reserved n hn]
  case stsr =>
    show execStsr n reg2 s = _
    rw [execStsr, ofNumber_of_reserved n hn]
  case prohibited =>
    obtain ⟨r, hr, hprohibited⟩ := ofNumber_of_write_prohibited n hn
    show execLdsr reg2 n s = _
    rw [execLdsr, Option.mem_def.mp hr]
    simp [hprohibited]
  case multiply =>
    have hrefused := (multiplyNotGuaranteed_iff reg1 reg2 reg3).mpr h
    exact ⟨if_pos hrefused, if_pos hrefused⟩

/-! ### What an instruction leaves unchanged -/

/-- Between the states s and t, the instruction changed nothing that it may not write: flags, system registers, memory,
HALT mode, and nothing outside the core. -/
structure Frame (i : Instr) (s t : State) : Prop where
  flag : ∀ b, b ∉ flagsWritten i → t.flag b = s.flag b
  pswHigh : s.psw.extractLsb' 8 24 = 0#24 → t.psw.extractLsb' 8 24 = 0#24
  sysReg : SysKept (.psw :: sysRegsWritten i) s t
  mem : ¬storesToMemory i → MemKept s t
  halted : i ≠ .halt → t.halted = s.halted
  outside : t.requests = s.requests ∧ t.host = s.host ∧ t.product = s.product ∧ t.hostAreas = s.hostAreas ∧
    t.tick = s.tick

section FrameRules

variable {i : Instr} {s t u : State}

theorem Frame.refl (i : Instr) (s : State) : Frame i s s where
  flag _ _ := rfl
  pswHigh h := h
  sysReg _ _ := rfl
  mem _ _ := rfl
  halted _ := rfl
  outside := ⟨rfl, rfl, rfl, rfl, rfl⟩

theorem Frame.trans (h : Frame i s t) (h' : Frame i t u) : Frame i s u where
  flag b hb := (h'.flag b hb).trans (h.flag b hb)
  pswHigh hs := h'.pswHigh (h.pswHigh hs)
  sysReg r hr := (h'.sysReg r hr).trans (h.sysReg r hr)
  mem hi a := (h'.mem hi a).trans (h.mem hi a)
  halted hi := (h'.halted hi).trans (h.halted hi)
  outside := by simp [h.outside, h'.outside]

theorem Frame.setPc (h : Frame i s t) (a : Word) : Frame i s (t.setPc a) :=
  h.trans (by constructor <;> simp [SysKept, MemKept])

theorem Frame.advance (h : Frame i s t) (n : Nat) : Frame i s (t.advance n) := h.setPc _

theorem Frame.setReg (h : Frame i s t) (r : RegNum) (v : Word) : Frame i s (t.setReg r v) :=
  h.trans (by constructor <;> simp [SysKept, MemKept])

theorem Frame.popRegs (h : Frame i s t) (a : Word) (regs : List RegNum) : Frame i s (t.popRegs a regs) :=
  h.trans (by constructor <;> simp [SysKept, MemKept])

theorem Frame.withoutSampling (h : Frame i s t) : Frame i s t.withoutSampling :=
  h.trans (by constructor <;> simp [SysKept, MemKept])

theorem Frame.setFlag (h : Frame i s t) {b : PswBit} (hb : b ∈ flagsWritten i) (v : Bool) :
    Frame i s (t.setFlag b v) := by
  refine h.trans ⟨fun c hc => ?flag, ?pswHigh, fun r hr => ?sysReg, fun _ _ => rfl, fun _ => rfl,
    ⟨rfl, rfl, rfl, rfl, rfl⟩⟩
  case flag => rw [flag_setFlag, if_neg (ne_of_mem_of_not_mem hb hc).symm]
  case pswHigh => rw [pswHigh_setFlag]; exact id
  case sysReg => exact sysReg_setFlag _ _ _ _ (List.ne_of_not_mem_cons hr)

theorem Frame.setSysReg (h : Frame i s t) {r : SysReg} (hr : r ∈ sysRegsWritten i) (hpsw : r ≠ .psw) (v : Word) :
    Frame i s (t.setSysReg r v) := by
  refine h.trans ⟨fun c _ => flag_setSysReg _ _ _ hpsw c, ?pswHigh, fun q hq => ?sysReg, fun _ _ => ?mem,
    fun _ => ?_, ?_⟩
  case pswHigh => rw [psw_setSysReg, if_neg hpsw]; exact id
  case sysReg => rw [sysReg_setSysReg, if_neg (ne_of_mem_of_not_mem (List.mem_cons_of_mem _ hr) hq).symm]
  case mem => rw [setSysReg_mem]
  all_goals simp

/-- A write to the whole PSW, by an instruction that may write every flag. -/
theorem Frame.setPsw (h : Frame i s t) (hall : ∀ b, b ∈ flagsWritten i) (v : Word) :
    Frame i s (t.setSysReg .psw v) := by
  refine h.trans ⟨fun c hc => absurd (hall c) hc, fun _ => ?pswHigh, fun q hq => ?sysReg, fun _ _ => rfl, fun _ => rfl,
    ⟨rfl, rfl, rfl, rfl, rfl⟩⟩
  case pswHigh =>
    rw [psw_setSysReg, if_pos rfl, BitVec.extractLsb'_and]
    exact BitVec.and_zero
  case sysReg => rw [sysReg_setSysReg, if_neg (List.ne_of_not_mem_cons hq)]

theorem Frame.store1 (h : Frame i s t) (hi : storesToMemory i) (a : Word) (v : Byte) : Frame i s (t.store1 a v) :=
  h.trans (by constructor <;> simp [SysKept, hi])

theorem Frame.store2 (h : Frame i s t) (hi : storesToMemory i) (a : Word) (v : Half) : Frame i s (t.store2 a v) :=
  (h.store1 hi _ _).store1 hi _ _

theorem Frame.store4 (h : Frame i s t) (hi : storesToMemory i) (a v : Word) : Frame i s (t.store4 a v) :=
  (((h.store1 hi _ _).store1 hi _ _).store1 hi _ _).store1 hi _ _

theorem Frame.pushRegs (h : Frame i s t) (hi : storesToMemory i) (a : Word) (regs : List RegNum) :
    Frame i s (t.pushRegs a regs) :=
  h.trans (by constructor <;> simp [SysKept, hi])

theorem Frame.prepareFrame (h : Frame i s t) (hi : storesToMemory i) (list12 : RegList) (imm5 : BitVec 5) :
    Frame i s (t.prepareFrame list12 imm5) :=
  (h.pushRegs hi _ _).setReg _ _

theorem Frame.disposeFrame (h : Frame i s t) (imm5 : BitVec 5) (list12 : RegList) :
    Frame i s (t.disposeFrame imm5 list12) :=
  (h.popRegs _ _).setReg _ _

theorem Frame.returnFrom (h : Frame i s t) (hall : ∀ b, b ∈ flagsWritten i) (pcReg pswReg : SysReg) :
    Frame i s (t.returnFrom pcReg pswReg) :=
  (h.setPsw hall _).setPc _

theorem Frame.setFlags (h : Frame i s t) (hflags : ∀ b ∈ [PswBit.cy, .ov, .s, .z], b ∈ flagsWritten i) (f : Flagged) :
    Frame i s (t.setFlags f) :=
  (((h.setFlag (hflags .cy (by simp)) _).setFlag (hflags .ov (by simp)) _).setFlag (hflags .s (by simp)) _).setFlag
    (hflags .z (by simp)) _

theorem Frame.setDivisionFlags (h : Frame i s t) (hflags : ∀ b ∈ [PswBit.ov, .s, .z], b ∈ flagsWritten i)
    (d : Division) :
    Frame i s (t.setDivisionFlags d) :=
  ((h.setFlag (hflags .ov (by simp)) _).setFlag (hflags .s (by simp)) _).setFlag (hflags .z (by simp)) _

theorem Frame.setLogicFlags (h : Frame i s t) (hflags : ∀ b ∈ [PswBit.ov, .s, .z], b ∈ flagsWritten i) (res : Word) :
    Frame i s (t.setLogicFlags res) :=
  ((h.setFlag (hflags .ov (by simp)) _).setFlag (hflags .s (by simp)) _).setFlag (hflags .z (by simp)) _

theorem Frame.setSaturatedFlags (h : Frame i s t) (hflags : ∀ b ∈ [PswBit.cy, .ov, .s, .z, .sat], b ∈ flagsWritten i)
    (f : Flagged) : Frame i s (t.setSaturatedFlags f) := by
  have hplain := h.setFlags (fun b hb => hflags b (List.mem_append_left [PswBit.sat] hb)) f
  rw [State.setSaturatedFlags]
  split
  case isTrue => exact hplain.setFlag (hflags .sat (by simp)) true
  case isFalse => exact hplain

theorem Frame.raise_softwareException (vector v : BitVec 5) (s : State) (rpc : Word) :
    Frame (.trap v) s (s.raise (.softwareException vector) rpc) :=
  (((((Frame.refl _ s).setSysReg (by simp [sysRegsWritten]) (by decide) _).setSysReg (by simp [sysRegsWritten])
    (by decide) _).setSysReg (by simp [sysRegsWritten]) (by decide) _).setFlag (by simp [flagsWritten]) _).setFlag
    (by simp [flagsWritten]) _ |>.setPc _

theorem Frame.raise_exceptionTrap (hsys : sysRegsWritten i = [.dbpc, .dbpsw, .dir])
    (hflags : flagsWritten i = [.np, .ep, .id]) (s : State) (rpc : Word) : Frame i s (s.raise .exceptionTrap rpc) :=
  ((((((Frame.refl _ s).setSysReg (by simp [hsys]) (by decide) _).setSysReg (by simp [hsys])
    (by decide) _).setFlag (by simp [hflags]) _).setFlag (by simp [hflags]) _).setFlag
    (by simp [hflags]) _).setSysReg (by simp [hsys]) (by decide) _ |>.setPc _

/-! ### The frame of every instruction -/

/-- A next state of this result keeps the frame of the instruction. -/
def KeepsFrame (i : Instr) (s : State) (r : Result) : Prop := ∀ t, r = .next t → Frame i s t

theorem keepsFrame_next (h : Frame i s t) : KeepsFrame i s (.next t) := by
  rintro u ⟨⟩
  exact h

theorem keepsFrame_refused (r : Refusal) : KeepsFrame i s (.refused r) := by
  rintro u ⟨⟩

theorem keepsFrame_ite {c : Prop} [Decidable c] {r r' : Result} (h : KeepsFrame i s r) (h' : KeepsFrame i s r') :
    KeepsFrame i s (if c then r else r') := by
  split <;> assumption

/-- The number of PSW is 5. -/
theorem ofNumber_eq_psw : ∀ n : BitVec 5, SysReg.ofNumber n = some .psw → n = 5#5 := by
  decide

theorem mem_sysRegsWritten_ldsr (reg2 : RegNum) : ∀ n : BitVec 5, ∀ r ∈ SysReg.ofNumber n, r.ldsrAllowed = true →
    r ∈ sysRegsWritten (.ldsr reg2 n) := by
  show ∀ n : BitVec 5, ∀ r ∈ SysReg.ofNumber n, r.ldsrAllowed = true →
    r ∈ (sysRegTable.filter fun p => p.1 = n).map fun p => p.2.1
  decide

theorem flagsWritten_ldsr_psw (reg2 : RegNum) (b : PswBit) : b ∈ flagsWritten (.ldsr reg2 5#5) := by
  cases b <;> simp [flagsWritten]

theorem keepsFrame_ldsr (s : State) (reg2 : RegNum) (n : BitVec 5) :
    KeepsFrame (.ldsr reg2 n) s (execLdsr reg2 n s) := by
  unfold execLdsr
  split
  case h_1 => exact keepsFrame_refused _
  case h_2 r hr =>
    split
    case isFalse => exact keepsFrame_refused _
    case isTrue hallowed =>
      refine keepsFrame_next ?_
      by_cases hpsw : r = .psw
      · subst hpsw
        obtain rfl := ofNumber_eq_psw n hr
        exact ((Frame.refl _ s).setPsw (flagsWritten_ldsr_psw reg2) _).advance 4 |>.withoutSampling
      · rw [if_neg hpsw]
        exact ((Frame.refl _ s).setSysReg (mem_sysRegsWritten_ldsr reg2 n r hr hallowed) hpsw _).advance 4

theorem keepsFrame_stsr (s : State) (n : BitVec 5) (reg2 : RegNum) :
    KeepsFrame (.stsr n reg2) s (execStsr n reg2 s) := by
  unfold execStsr
  split
  case h_1 => exact keepsFrame_refused _
  case h_2 => exact keepsFrame_next (((Frame.refl _ s).setReg _ _).advance _)

/-- Every instruction is a chain of operations that keep its frame; the cases stand by the ends they share. -/
theorem keepsFrame_exec (i : Instr) (s : State) : KeepsFrame i s (exec i s) := by
  have h (i : Instr) : Frame i s s := Frame.refl i s
  cases i
  case ldsr => exact keepsFrame_ldsr s _ _
  case stsr => exact keepsFrame_stsr s _ _
  case nop => exact keepsFrame_next ((h _).advance _)
  case movReg | movImm5 | movImm32 | movea | movhi | setf | sasf | cmovReg | cmovImm5 | mulhReg | mulhImm5 | mulhi |
      zxb | sxb | zxh | sxh | ldB | ldBu | ldH | ldHu | ldW | sldB | sldBu | sldH | sldHu | sldW =>
    exact keepsFrame_next (((h _).setReg _ _).advance _)
  case addReg | addImm5 | addi | sub | subr | sarReg | sarImm5 | shlReg | shlImm5 | shrReg | shrImm5 |
      bsh | bsw | hsw =>
    exact keepsFrame_next ((((h _).setReg _ _).setFlags (by simp [flagsWritten]) _).advance _)
  case cmpReg | cmpImm5 => exact keepsFrame_next (((h _).setFlags (by simp [flagsWritten]) _).advance _)
  case andReg | andi | orReg | ori | xorReg | xori | notReg =>
    exact keepsFrame_next ((((h _).setReg _ _).setLogicFlags (by simp [flagsWritten]) _).advance _)
  case tst => exact keepsFrame_next (((h _).setLogicFlags (by simp [flagsWritten]) _).advance _)
  case div | divu | divhReg3 | divhu =>
    exact keepsFrame_next (((((h _).setReg _ _).setReg _ _).setDivisionFlags (by simp [flagsWritten]) _).advance _)
  case divhReg =>
    exact keepsFrame_next ((((h _).setReg _ _).setDivisionFlags (by simp [flagsWritten]) _).advance _)
  case sataddReg | sataddImm5 | satsub | satsubi | satsubr =>
    exact keepsFrame_next ((((h _).setReg _ _).setSaturatedFlags (by simp [flagsWritten]) _).advance _)
  case stB | sstB => exact keepsFrame_next (((h _).store1 (by trivial) _ _).advance _)
  case stH | sstH => exact keepsFrame_next (((h _).store2 (by trivial) _ _).advance _)
  case stW | sstW => exact keepsFrame_next (((h _).store4 (by trivial) _ _).advance _)
  case set1Disp | set1Reg | clr1Disp | clr1Reg | not1Disp | not1Reg =>
    exact keepsFrame_next ((((h _).setFlag (by simp [flagsWritten]) _).store1 (by trivial) _ _).advance _)
  case tst1Disp | tst1Reg => exact keepsFrame_next (((h _).setFlag (by simp [flagsWritten]) _).advance _)
  case mulReg | muluReg =>
    exact keepsFrame_ite (keepsFrame_refused _) (keepsFrame_next ((((h _).setReg _ _).setReg _ _).advance _))
  case mulImm9 | muluImm9 => exact keepsFrame_next ((((h _).setReg _ _).setReg _ _).advance _)
  case bcond =>
    refine keepsFrame_next ?_
    split
    case isTrue => exact (h _).setPc _
    case isFalse => exact (h _).advance _
  case jmp | jr | switch => exact keepsFrame_next ((h _).setPc _)
  case jarl => exact keepsFrame_next (((h _).setReg _ _).setPc _)
  case callt =>
    exact keepsFrame_next ((((h _).setSysReg (by simp [sysRegsWritten]) (by decide) _).setSysReg
      (by simp [sysRegsWritten]) (by decide) _).setPc _)
  case trap => exact keepsFrame_next (Frame.raise_softwareException ..)
  case dbtrap | illegal0111 | illegal1xxx => exact keepsFrame_next (Frame.raise_exceptionTrap rfl rfl s _)
  case ctret => exact keepsFrame_next ((h _).returnFrom (fun b => by cases b <;> simp [flagsWritten]) _ _)
  case dbret =>
    exact keepsFrame_next (((h _).returnFrom (fun b => by cases b <;> simp [flagsWritten]) _ _).setSysReg
      (by simp [sysRegsWritten]) (by decide) _)
  case reti =>
    refine keepsFrame_next ?_
    split <;> exact (h _).returnFrom (fun b => by cases b <;> simp [flagsWritten]) _ _
  case di | ei => exact keepsFrame_next (((h _).setFlag (by simp [flagsWritten]) _).advance _).withoutSampling
  case halt =>
    refine keepsFrame_next (((h .halt).advance 4).trans ⟨?_, id, ?_, ?_, fun hne => absurd rfl hne, ?_⟩) <;>
      simp [SysKept, MemKept]
  case prepare => exact keepsFrame_next (((h _).prepareFrame (by trivial) _ _).advance _)
  case prepareSp | prepareImm16 | prepareHi16 | prepareImm32 =>
    exact keepsFrame_next ((((h _).prepareFrame (by trivial) _ _).setReg _ _).advance _)
  case dispose => exact keepsFrame_next (((h _).disposeFrame _ _).advance _)
  case disposeJump => exact keepsFrame_next (((h _).disposeFrame _ _).setPc _)

/-- A saturated operation sets SAT or leaves it. -/
theorem sat_of_saturated {reg2 : RegNum} {f : Flagged} {len : Nat} (hop : exec i s = s.saturatedOp reg2 f len)
    (h : exec i s = .next t) (hsat : s.flag .sat = true) : t.flag .sat = true := by
  rw [flag_of_completes (completes_saturated hop) h]
  simp [State.flagAfter, hsat]

end FrameRules

/-! ### The obligations -/

/-- Bits 31..8 of a word are 0 exactly when its upper three bytes are. -/
theorem and_high_eq_zero_iff (v : Word) : v &&& 0xFFFFFF00#32 = 0#32 ↔ v.extractLsb' 8 24 = 0#24 := by
  have hshift : v &&& 0xFFFFFF00#32 = v >>> 8 <<< 8 := by
    rw [BitVec.shiftLeft_ushiftRight]
    rfl
  have hv := v.isLt
  rw [hshift, ← BitVec.toNat_inj, ← BitVec.toNat_inj, BitVec.toNat_shiftLeft, BitVec.toNat_ushiftRight,
    BitVec.extractLsb'_toNat, Nat.shiftLeft_eq, Nat.shiftRight_eq_div_pow, BitVec.toNat_ofNat, BitVec.toNat_ofNat]
  omega

/-- Settles O28: by the frame of every instruction. -/
theorem flagWriters : Obligations.FlagWriters := by
  unfold Obligations.FlagWriters
  intro i s t h
  have hframe := keepsFrame_exec i s t h
  rw [and_high_eq_zero_iff, and_high_eq_zero_iff]
  exact ⟨hframe.flag, hframe.pswHigh⟩

/-- Settles O29: by the frame of every instruction. -/
theorem systemRegisterWriters : Obligations.SystemRegisterWriters := by
  unfold Obligations.SystemRegisterWriters
  exact fun i s t h => (keepsFrame_exec i s t h).sysReg

/-- Settles O31: by the frame of every instruction. -/
theorem memoryWriters : Obligations.MemoryWriters := by
  unfold Obligations.MemoryWriters
  exact fun i s t h => (keepsFrame_exec i s t h).mem

/-- Settles O32: by the frame of every instruction. -/
theorem environmentKept : Obligations.EnvironmentKept := by
  unfold Obligations.EnvironmentKept
  exact fun i s t h => ⟨(keepsFrame_exec i s t h).halted, (keepsFrame_exec i s t h).outside⟩

/-- Settles O30: only the saturated operations and the instructions that write the whole PSW may write SAT. -/
theorem satIsCumulative : Obligations.SatIsCumulative := by
  unfold Obligations.SatIsCumulative
  intro i s t h hsat hclear
  have hwritten : .sat ∈ flagsWritten i := by
    by_contra hnot
    rw [(keepsFrame_exec i s t h).flag .sat hnot, hsat] at hclear
    exact Bool.true_eq_false.mp hclear
  have hnotSet : ¬t.flag .sat = true := by simp [hclear]
  cases i
  case sataddReg | sataddImm5 | satsub | satsubi | satsubr => exact absurd (sat_of_saturated rfl h hsat) hnotSet
  case ldsr reg2 n =>
    obtain rfl : n = 5#5 := by
      by_contra hn
      simp [flagsWritten, hn] at hwritten
    exact .inl ⟨reg2, rfl⟩
  case reti => exact .inr (.inl rfl)
  case ctret => exact .inr (.inr (.inl rfl))
  case dbret => exact .inr (.inr (.inr rfl))
  all_goals simp [flagsWritten] at hwritten

end Sys2Proof.Machine
end
